-- ==== Sys2Proof/Word.lean ====
section
/-! DEFINITION. Words, bytes and the index types of the FSV4-16 (00_scope.md, "Principal figures"). -/

namespace Sys2Proof

/-- A word of the Array Store: 32-bit two's complement (R1, R99). -/
abbrev Word := BitVec 32

/-- One byte of a frame (R161). -/
abbrev Byte := BitVec 8

/-- A logical word address of a port's window, 0 to 4095: logical page × 256 + offset (R7). -/
abbrev LogicalAddress := BitVec 12

/-- A command port, P0 to P3. -/
abbrev PortId := Fin 4

/-- An authority level, 0 (most trusted) to 3 (R160). -/
abbrev Level := Fin 4

/-- A trigger line, T0 to T7 (R122). -/
abbrev LineId := Fin 8

/-- A context slot, C0 to C31 (R22). -/
abbrev ContextId := Fin 32

/-- A gate, G0 to G63 (R45). -/
abbrev GateId := Fin 64

/-- A physical page of the Array Store, 0 to 63 (R1). -/
abbrev PhysicalPage := Fin 64

/-- A logical page of a port's window, 0 to 15 (R7). -/
abbrev LogicalPage := Fin 16

/-- A set of physical pages; bit i stands for page i (11.2, "Page set"). -/
abbrev PageSet := BitVec 64

/-- A set of event flags or an attention mask; the bits are those of 11.2. -/
abbrev FlagSet := BitVec 6

end Sys2Proof
end

