-- ==== Sys2Proof/Syntax.lean ====
section
/-! DEFINITION. The commands and events of the part: one constructor of Instr for each row of spec/opcode_table.json,
with the operands its rule and its frame layout (11_frame_and_record_formats.md) give it. A field that the command's own
checks judge is carried raw, as the byte of the frame; a field whose every encoding is defined is carried decoded (R188). -/

namespace Sys2Proof

/-- The result named in the status byte of a response (R169). -/
inductive Status where
  | ok | checksum | length | unknown | param | denied | range | state | busy | noGate | noContext
  | ctxFaulted | nestDepth | offline | mapAccess | mapLocked | pageFault | pageHeld | pageInUse | wordFault | chained
  deriving DecidableEq, Repr

/-- The level of a trigger line's pin (R124). -/
inductive PinLevel where
  | low | high
  deriving DecidableEq, Repr

/-- The outcome of a test of the store check (R148, R150, R151). -/
inductive TestOutcome where
  | pass | fail
  deriving DecidableEq, Repr

/-- A set of page fault kinds (01, section 1.2): a page's fault set, or the kind set of CLEAR_FAULTS (R21). -/
structure FaultSet where
  pattern : Bool
  decode : Bool
  word : Bool
  deriving DecidableEq, Repr

/-- A set of saturation kinds: an error mask or the kinds seen (R23, R30). -/
structure SatSet where
  high : Bool
  low : Bool
  deriving DecidableEq, Repr

/-- The steps that START_CHECK requests beside REFERENCE (R145). -/
structure StepRequest where
  pattern : Bool
  decode : Bool
  deriving DecidableEq, Repr

/-- One entry of WRITE_MAP's list, as its three bytes (R8). -/
structure MapFields where
  logical : Byte
  physical : Byte
  access : Byte
  deriving DecidableEq, Repr

/-- An operand descriptor as its three bytes (11.2): the step is a signed byte. -/
structure DescriptorFields where
  page : Byte
  offset : Byte
  step : Byte
  deriving DecidableEq, Repr

/-- The 22-byte parameter block of DEFINE_CONTEXT and SET_PARAMS (11.3). -/
structure BlockFields where
  operation : Byte
  priority : Byte
  mask : SatSet
  count : BitVec 16
  taps : Byte
  shift : Byte
  scalar : Word
  relation : Byte
  magnitude : Bool
  x : DescriptorFields
  y : DescriptorFields
  z : DescriptorFields
  deriving DecidableEq, Repr

/-- The four gate fields of WRITE_GATE (R48). -/
structure GateFields where
  kind : Byte
  context : Byte
  level : Byte
  linePermitted : Bool
  deriving DecidableEq, Repr

/-- The eight configuration fields of CONFIG_LINE (R137). -/
structure LineFields where
  enable : Bool
  source : Byte
  edge : Byte
  debounce : Byte
  validation : Byte
  priority : Byte
  gate : Byte
  report : Byte
  deriving DecidableEq, Repr

/-- The commands and events: one constructor per row of spec/opcode_table.json. `port` is the issuing port. -/
inductive Instr where
  | echo (port : PortId) (data : List Byte)
  | setPort (port : PortId) (timeout : Byte)
  | portReset (port : PortId) (target : Byte)
  | deviceRestart (port : PortId)
  | writeMap (port : PortId) (entries : List MapFields)
  | readMap (port : PortId) (target : Byte)
  | translate (port : PortId) (page : Byte)
  | readWords (port : PortId) (page offset count : Byte)
  | writeWords (port : PortId) (page offset count : Byte) (words : List Word)
  | readPageFaults (port : PortId)
  | clearFaults (port : PortId) (pages : PageSet) (kinds : FaultSet) (clearOffline : Bool)
  | defineContext (port : PortId) (slot : Byte) (block : BlockFields)
  | setParams (port : PortId) (slot : Byte) (block : BlockFields)
  | readContext (port : PortId) (slot : Byte)
  | clearContext (port : PortId) (slot : Byte)
  | freeContext (port : PortId) (slot : Byte)
  | writeGate (port : PortId) (gate : Byte) (present : Bool) (fields : GateFields)
  | readGate (port : PortId) (first count : Byte)
  | invoke (port : PortId) (gate : Byte)
  | hold (port : PortId) (slot : Byte)
  | resume (port : PortId) (slot : Byte)
  | abort (port : PortId) (slot : Byte)
  | readRun (port : PortId)
  | configLine (port : PortId) (line : Byte) (fields : LineFields)
  | clearLine (port : PortId) (line : Byte)
  | readLines (port : PortId)
  | setTimer (port : PortId) (reload : BitVec 16) (run : Bool)
  | startCheck (port : PortId) (pages : PageSet) (request : StepRequest)
  | abortCheck (port : PortId)
  | readCheck (port : PortId)
  | readEvents (port : PortId)
  | clearEvents (port : PortId) (flags : Byte)
  | setAttention (port : PortId) (mask : Byte)
  | readCompletions (port : PortId)
  | select (port : PortId)
  | deselect (port : PortId)
  | byteExchange (port : PortId) (received : Byte)
  | receiveTimerExpiry (port : PortId)
  | dataRunWordAccess (port : PortId) (checkFails : Bool)
  | elementStep (failingRead : Option Nat)
  | pinLevelChange (line : LineId) (level : PinLevel)
  | debounceExpiry (line : LineId)
  | validationExpiry (line : LineId)
  | intervalTimerExpiry
  | referenceTestComplete (outcome : TestOutcome)
  | pageTestComplete (outcome : TestOutcome)
  | pairTestComplete (outcome : TestOutcome)
  | powerOn
  | startupComplete (straps : Vector Level 4)
  | resetAssert
  | resetRelease (straps : Vector Level 4)
  | remainingCountFalls
  deriving DecidableEq, Repr

end Sys2Proof
end

