-- ==== Sys2Proof/Decode.lean ====
section
/-! DEFINITION. The command frames: check byte, encodings of fields, the reading of a frame as a command and the frame
of a command (R161, R162, R166, R187, R188; tables 11.1 to 11.3); and decodeTableWord, which reads no command from a
word, since no row of spec/opcode_table.json gives bits. -/

namespace Sys2Proof

/-- No row of spec/opcode_table.json gives bits, so no word spells a command. -/
def decodeTableWord (_nbits _w : Nat) : Option Instr := none

/-! ### The check byte (R162) -/

/-- One bit step of the CRC-8 register: shift left, and XOR with 2FH when the top bit was 1. -/
def crcBit (r : Byte) : Byte := if r.msb then (r <<< 1) ^^^ 0x2F#8 else r <<< 1

/-- One byte taken into the register: XOR, then eight bit steps. -/
def crcByte (r b : Byte) : Byte := Nat.iterate crcBit 8 (r ^^^ b)

/-- The register after a list of bytes, from FFH. -/
def crc8 (bytes : List Byte) : Byte := bytes.foldl crcByte 0xFF#8

/-! ### Fields of more than one byte, most significant byte first (00_scope.md, "Byte order") -/

def byteOfNat (n : Nat) : Byte := BitVec.ofNat 8 n

def bytes16 (v : BitVec 16) : List Byte := [v.extractLsb' 8 8, v.extractLsb' 0 8]

def bytes32 (v : Word) : List Byte :=
  [v.extractLsb' 24 8, v.extractLsb' 16 8, v.extractLsb' 8 8, v.extractLsb' 0 8]

def bytes64 (v : BitVec 64) : List Byte :=
  bytes32 (v.extractLsb' 32 32) ++ bytes32 (v.extractLsb' 0 32)

def half (hi lo : Byte) : BitVec 16 := hi ++ lo

def word (b3 b2 b1 b0 : Byte) : Word := b3 ++ b2 ++ b1 ++ b0

/-- A page set in eight bytes: bit j of byte i stands for page 8i + j (11.2). -/
def pageSetBytes (s : PageSet) : List Byte :=
  [s.extractLsb' 0 8, s.extractLsb' 8 8, s.extractLsb' 16 8, s.extractLsb' 24 8,
   s.extractLsb' 32 8, s.extractLsb' 40 8, s.extractLsb' 48 8, s.extractLsb' 56 8]

def pageSetOf (b0 b1 b2 b3 b4 b5 b6 b7 : Byte) : PageSet :=
  b7 ++ b6 ++ b5 ++ b4 ++ b3 ++ b2 ++ b1 ++ b0

/-! ### Bit sets and yes/no fields (11.2, R188) -/

/-- A byte from its bits, bit 0 first. -/
def byteOfBits (bits : List Bool) : Byte :=
  bits.foldr (fun b r => (r <<< 1) ||| (if b then 1#8 else 0#8)) 0#8

def boolByte (b : Bool) : Byte := if b then 0x01#8 else 0x00#8

/-- 00H is no, any other value yes. -/
def yes (b : Byte) : Bool := b != 0x00#8

def SatSet.toByte (m : SatSet) : Byte := byteOfBits [m.high, m.low]

/-- Bits outside the defined members are passed over (R188). -/
def satSetOf (b : Byte) : SatSet := ⟨b.getLsbD 0, b.getLsbD 1⟩

def FaultSet.toByte (f : FaultSet) : Byte := byteOfBits [f.pattern, f.decode, f.word]

def faultSetOf (b : Byte) : FaultSet := ⟨b.getLsbD 0, b.getLsbD 1, b.getLsbD 2⟩

/-- REFERENCE's bit 0 is passed over, since REFERENCE always runs (R188); it is sent as 1. -/
def StepRequest.toByte (r : StepRequest) : Byte := byteOfBits [true, r.pattern, r.decode]

def stepRequestOf (b : Byte) : StepRequest := ⟨b.getLsbD 1, b.getLsbD 2⟩

/-- The status byte values of 11.1. -/
def Status.toByte : Status → Byte
  | .ok => 0x00 | .checksum => 0x01 | .length => 0x02 | .unknown => 0x03 | .param => 0x04 | .denied => 0x05
  | .range => 0x06 | .state => 0x07 | .busy => 0x08 | .noGate => 0x09 | .noContext => 0x0A | .ctxFaulted => 0x0B
  | .nestDepth => 0x0C | .offline => 0x0D | .mapAccess => 0x0E | .mapLocked => 0x0F | .pageFault => 0x10
  | .pageHeld => 0x11 | .pageInUse => 0x12 | .wordFault => 0x13 | .chained => 0x14

/-! ### Command codes (11.1) -/

/-- The code byte of a command; 00H, which names no command, for the rows that are events. -/
def Instr.code : Instr → Byte
  | .echo .. => 0x01 | .setPort .. => 0x02 | .portReset .. => 0x03 | .deviceRestart .. => 0x04
  | .writeMap .. => 0x10 | .readMap .. => 0x11 | .translate .. => 0x12 | .readWords .. => 0x13
  | .writeWords .. => 0x14 | .readPageFaults .. => 0x15 | .clearFaults .. => 0x16
  | .defineContext .. => 0x20 | .setParams .. => 0x20 | .readContext .. => 0x21 | .clearContext .. => 0x22
  | .freeContext .. => 0x23 | .writeGate .. => 0x30 | .readGate .. => 0x31 | .invoke .. => 0x32
  | .hold .. => 0x40 | .resume .. => 0x41 | .abort .. => 0x42 | .readRun .. => 0x43
  | .configLine .. => 0x50 | .clearLine .. => 0x51 | .readLines .. => 0x52 | .setTimer .. => 0x53
  | .startCheck .. => 0x60 | .abortCheck .. => 0x61 | .readCheck .. => 0x62
  | .readEvents .. => 0x70 | .clearEvents .. => 0x71 | .setAttention .. => 0x72 | .readCompletions .. => 0x73
  | .select .. | .deselect .. | .byteExchange .. | .receiveTimerExpiry .. | .dataRunWordAccess .. | .elementStep ..
  | .pinLevelChange .. | .debounceExpiry .. | .validationExpiry .. | .intervalTimerExpiry | .referenceTestComplete ..
  | .pageTestComplete .. | .pairTestComplete .. | .powerOn | .startupComplete .. | .resetAssert | .resetRelease ..
  | .remainingCountFalls => 0x00

/-! ### Parameters of a command (11.3) -/

def MapFields.bytes (e : MapFields) : List Byte := [e.logical, e.physical, e.access]

def DescriptorFields.bytes (d : DescriptorFields) : List Byte := [d.page, d.offset, d.step]

/-- The 22-byte parameter block of 11.3. -/
def BlockFields.bytes (b : BlockFields) : List Byte :=
  [b.operation, b.priority, b.mask.toByte] ++ bytes16 b.count ++ [b.taps, b.shift] ++ bytes32 b.scalar ++
    [b.relation, boolByte b.magnitude] ++ b.x.bytes ++ b.y.bytes ++ b.z.bytes

/-- The parameter bytes of a command, in the layouts of 11.3; empty for the rows that are events. -/
def Instr.params : Instr → List Byte
  | .echo _ data => data
  | .setPort _ timeout => [timeout]
  | .portReset _ target => [target]
  | .deviceRestart _ => []
  | .writeMap _ entries => entries.flatMap MapFields.bytes
  | .readMap _ target => [target]
  | .translate _ page => [page]
  | .readWords _ page offset count => [page, offset, count]
  | .writeWords _ page offset count words => [page, offset, count] ++ words.flatMap bytes32
  | .readPageFaults _ => []
  | .clearFaults _ pages kinds clearOffline => pageSetBytes pages ++ [kinds.toByte, boolByte clearOffline]
  | .defineContext _ slot block => 0x00#8 :: slot :: block.bytes
  | .setParams _ slot block => 0x01#8 :: slot :: block.bytes
  | .readContext _ slot => [slot]
  | .clearContext _ slot => [slot]
  | .freeContext _ slot => [slot]
  | .writeGate _ gate present f =>
      [gate, boolByte present, f.kind, f.context, f.level, boolByte f.linePermitted]
  | .readGate _ first count => [first, count]
  | .invoke _ gate => [gate]
  | .hold _ slot => [slot]
  | .resume _ slot => [slot]
  | .abort _ slot => [slot]
  | .readRun _ => []
  | .configLine _ line f =>
      [line, boolByte f.enable, f.source, f.edge, f.debounce, f.validation, f.priority, f.gate, f.report]
  | .clearLine _ line => [line]
  | .readLines _ => []
  | .setTimer _ reload run => bytes16 reload ++ [boolByte run]
  | .startCheck _ pages request => pageSetBytes pages ++ [request.toByte]
  | .abortCheck _ => []
  | .readCheck _ => []
  | .readEvents _ => []
  | .clearEvents _ flags => [flags]
  | .setAttention _ mask => [mask]
  | .readCompletions _ => []
  | .select .. | .deselect .. | .byteExchange .. | .receiveTimerExpiry .. | .dataRunWordAccess .. | .elementStep ..
  | .pinLevelChange .. | .debounceExpiry .. | .validationExpiry .. | .intervalTimerExpiry | .referenceTestComplete ..
  | .pageTestComplete .. | .pairTestComplete .. | .powerOn | .startupComplete .. | .resetAssert | .resetRelease ..
  | .remainingCountFalls => []

/-- A frame closed with its check byte: L, the bytes between, and the CRC-8 of all of them (R161, R162). -/
def closeFrame (middle : List Byte) : List Byte :=
  let opened := byteOfNat (middle.length + 2) :: middle
  opened ++ [crc8 opened]

/-- The command frame of a command (R161). -/
def encodeFrame (i : Instr) : List Byte := closeFrame (i.code :: i.params)

/-! ### Reading a complete frame (R166, R187) -/

/-- The whole entries of a WRITE_MAP list; `none` where a part entry is left. -/
def parseEntries : List Byte → Option (List MapFields)
  | [] => some []
  | l :: p :: a :: rest => (parseEntries rest).map (⟨l, p, a⟩ :: ·)
  | _ => none

/-- The whole words of a WRITE_WORDS; `none` where a part word is left. -/
def parseWords : List Byte → Option (List Word)
  | [] => some []
  | b3 :: b2 :: b1 :: b0 :: rest => (parseWords rest).map (word b3 b2 b1 b0 :: ·)
  | _ => none

/-- The parameter block of 22 bytes (11.3). -/
def parseBlockFields : List Byte → Option BlockFields
  | [op, pr, em, n1, n0, m, sh, w3, w2, w1, w0, rel, mag, xp, xo, xs, yp, yo, ys, zp, zo, zs] =>
      some { operation := op, priority := pr, mask := satSetOf em, count := half n1 n0, taps := m, shift := sh,
             scalar := word w3 w2 w1 w0, relation := rel, magnitude := yes mag,
             x := ⟨xp, xo, xs⟩, y := ⟨yp, yo, ys⟩, z := ⟨zp, zo, zs⟩ }
  | _ => none

/-- A layout of no parameters. -/
def layout0 (i : Instr) : List Byte → Except Status Instr
  | [] => .ok i
  | _ => .error .length

/-- A layout of one parameter byte. -/
def layout1 (f : Byte → Instr) : List Byte → Except Status Instr
  | [a] => .ok (f a)
  | _ => .error .length

def orLength : Option Instr → Except Status Instr
  | some i => .ok i
  | none => .error .length

def readReadWords (p : PortId) : List Byte → Except Status Instr
  | [page, offset, count] => .ok (.readWords p page offset count)
  | _ => .error .length

def readWriteWords (p : PortId) : List Byte → Except Status Instr
  | page :: offset :: count :: rest => orLength ((parseWords rest).map (.writeWords p page offset count))
  | _ => .error .length

def readClearFaults (p : PortId) : List Byte → Except Status Instr
  | [b0, b1, b2, b3, b4, b5, b6, b7, kinds, off] =>
      .ok (.clearFaults p (pageSetOf b0 b1 b2 b3 b4 b5 b6 b7) (faultSetOf kinds) (yes off))
  | _ => .error .length

/-- Code 20H: the mode byte, the first parameter, names the command; without one, or with another mode, no command
is named (R187). -/
def readContextWrite (p : PortId) : List Byte → Except Status Instr
  | [] => .error .unknown
  | mode :: rest =>
    if mode = 0x00#8 then
      match rest with
      | slot :: block => orLength ((parseBlockFields block).map (.defineContext p slot))
      | [] => .error .length
    else if mode = 0x01#8 then
      match rest with
      | slot :: block => orLength ((parseBlockFields block).map (.setParams p slot))
      | [] => .error .length
    else .error .unknown

def readWriteGate (p : PortId) : List Byte → Except Status Instr
  | [gate, present, kind, context, level, permitted] =>
      .ok (.writeGate p gate (yes present) ⟨kind, context, level, yes permitted⟩)
  | _ => .error .length

def readReadGate (p : PortId) : List Byte → Except Status Instr
  | [first, count] => .ok (.readGate p first count)
  | _ => .error .length

def readConfigLine (p : PortId) : List Byte → Except Status Instr
  | [line, enable, source, edge, d, v, priority, gate, report] =>
      .ok (.configLine p line ⟨yes enable, source, edge, d, v, priority, gate, report⟩)
  | _ => .error .length

def readSetTimer (p : PortId) : List Byte → Except Status Instr
  | [r1, r0, run] => .ok (.setTimer p (half r1 r0) (yes run))
  | _ => .error .length

def readStartCheck (p : PortId) : List Byte → Except Status Instr
  | [b0, b1, b2, b3, b4, b5, b6, b7, request] =>
      .ok (.startCheck p (pageSetOf b0 b1 b2 b3 b4 b5 b6 b7) (stepRequestOf request))
  | _ => .error .length

/-- Tests 2 and 3 of R166: the code names a command, else UNKNOWN; its layout admits the length, else LENGTH. -/
def readCommand (p : PortId) (code : Byte) (params : List Byte) : Except Status Instr :=
  if code = 0x01#8 then .ok (.echo p params)
  else if code = 0x02#8 then layout1 (.setPort p) params
  else if code = 0x03#8 then layout1 (.portReset p) params
  else if code = 0x04#8 then layout0 (.deviceRestart p) params
  else if code = 0x10#8 then orLength ((parseEntries params).map (.writeMap p))
  else if code = 0x11#8 then layout1 (.readMap p) params
  else if code = 0x12#8 then layout1 (.translate p) params
  else if code = 0x13#8 then readReadWords p params
  else if code = 0x14#8 then readWriteWords p params
  else if code = 0x15#8 then layout0 (.readPageFaults p) params
  else if code = 0x16#8 then readClearFaults p params
  else if code = 0x20#8 then readContextWrite p params
  else if code = 0x21#8 then layout1 (.readContext p) params
  else if code = 0x22#8 then layout1 (.clearContext p) params
  else if code = 0x23#8 then layout1 (.freeContext p) params
  else if code = 0x30#8 then readWriteGate p params
  else if code = 0x31#8 then readReadGate p params
  else if code = 0x32#8 then layout1 (.invoke p) params
  else if code = 0x40#8 then layout1 (.hold p) params
  else if code = 0x41#8 then layout1 (.resume p) params
  else if code = 0x42#8 then layout1 (.abort p) params
  else if code = 0x43#8 then layout0 (.readRun p) params
  else if code = 0x50#8 then readConfigLine p params
  else if code = 0x51#8 then layout1 (.clearLine p) params
  else if code = 0x52#8 then layout0 (.readLines p) params
  else if code = 0x53#8 then readSetTimer p params
  else if code = 0x60#8 then readStartCheck p params
  else if code = 0x61#8 then layout0 (.abortCheck p) params
  else if code = 0x62#8 then layout0 (.readCheck p) params
  else if code = 0x70#8 then layout0 (.readEvents p) params
  else if code = 0x71#8 then layout1 (.clearEvents p) params
  else if code = 0x72#8 then layout1 (.setAttention p) params
  else if code = 0x73#8 then layout0 (.readCompletions p) params
  else .error .unknown

/-- The three tests of R166 on a complete frame of port p: check byte, code, length. The frame's bytes are those of
R161, so a complete frame has at least three. -/
def decodeFrame (p : PortId) (bytes : List Byte) : Except Status Instr :=
  if crc8 bytes ≠ 0x00#8 then .error .checksum
  else readCommand p (bytes.getD 1 0x00#8) (bytes.drop 2).dropLast

end Sys2Proof
end

