-- ==== Sys2Proof/Config.lean ====
section
/-! DEFINITION. What is fixed for the part: the figures of 00_scope.md and the values marked "Default." in the
chapters, with the few values the manual leaves to the board and the model names (assumption log 5, 6, 13).
No value here is free: every outcome that the world chooses is an operand of its event (assumption log 7). -/

namespace Sys2Proof.Config

/-- Words of the Array Store (00_scope.md). -/
def storeWords : Nat := 16384

/-- Words of a page (R1). -/
def pageWords : Nat := 256

/-- Most members of the chain (R67). -/
def chainDepth : Nat := 4

/-- Default receive timeout in milliseconds (R159). -/
def defaultTimeout : Byte := 20

/-- Default debounce interval D in milliseconds (R122). -/
def defaultDebounce : Fin 64 := 2

/-- Default validation interval V in milliseconds (R122). -/
def defaultValidation : Fin 64 := 5

/-- Default reload of the interval timer, in units of 100 µs (R141). -/
def defaultReload : BitVec 16 := 10

/-- The level every port is strapped to in State.reset. The straps are the board's (R160): DESIGN CHOICE,
assumption log 5; unsafe. -/
def resetLevel : Level := 0

/-- The byte on a port's data output before its first byte exchange. DESIGN CHOICE, assumption log 13; unsafe. -/
def resetDataOut : Byte := 0

end Sys2Proof.Config
end

