-- ==== Sys2Proof/Machine/State.lean ====
section
/-! DEFINITION. The state of the part, all of it plain data, with the reasons a step can stop and the state after
reset. Each record is named after the block that owns it (00_scope.md, "Block overview"). -/

namespace Sys2Proof.Machine

/-! ### Array Store and Map Unit (01) -/

/-- The words of the store: (physical word address, word) pairs, addresses strictly rising, no entry holding 0, which
is what an unlisted address reads as (R2). Assumption log 8. -/
abbrev Memory := List (Nat × Word)

/-- The access right of a window map entry (R6). -/
inductive Access where
  | absent | read | readWrite
  deriving DecidableEq, Repr

/-- A window map entry; it holds both fields whatever the access is (R6). -/
structure MapEntry where
  page : PhysicalPage
  access : Access
  deriving DecidableEq, Repr

/-- A port's window map (R6). -/
abbrev WindowMap := Vector MapEntry 16

/-! ### Context Table (02) -/

/-- An operand descriptor: logical page, offset and step (02, "Operand descriptors"). -/
structure Descriptor where
  page : LogicalPage
  offset : Fin 256
  step : Int
  deriving DecidableEq, Repr

/-- The relation of CMP and CMPS (R115). -/
inductive Relation where
  | lt | le | eq | ne | gt | ge
  deriving DecidableEq, Repr

/-- The thirteen array operations, each with the fields of R23 that are present for it. -/
inductive Operation where
  | copy (x z : Descriptor)
  | add (x y z : Descriptor)
  | sub (x y z : Descriptor)
  | mulq (shift : Nat) (x y z : Descriptor)
  | scale (shift : Nat) (scalar : Word) (x z : Descriptor)
  | offset (scalar : Word) (x z : Descriptor)
  | dot (shift : Nat) (x y z : Descriptor)
  | fir (taps shift : Nat) (x y z : Descriptor)
  | firz (taps shift : Nat) (x y z : Descriptor)
  | cmp (relation : Relation) (magnitude : Bool) (x y z : Descriptor)
  | cmps (relation : Relation) (magnitude : Bool) (scalar : Word) (x z : Descriptor)
  | peak (x z : Descriptor)
  | reverse (x : Descriptor)
  deriving DecidableEq, Repr

/-- The parameter block (R23): operation with its fields, priority, error mask and element count N. -/
structure Block where
  operation : Operation
  priority : Fin 8
  mask : SatSet
  count : Nat
  deriving DecidableEq, Repr

/-- The states of a defined context; FREE is the absence of a record (R22). -/
inductive ContextState where
  | idle | ready | running | preempted | held | done | faulted
  deriving DecidableEq, Repr

/-- Who started a context: a port or a trigger line (R27). -/
inductive Starter where
  | port (p : PortId)
  | line (l : LineId)
  deriving DecidableEq, Repr

/-- The part of the continuation that depends on the operation (R29). -/
inductive OpPart where
  | plain
  | accumulator (value : BitVec 64)
  | hits (count : Nat)
  | peak (best : Option (Word × Nat))
  deriving DecidableEq, Repr

/-- The continuation: the next element index and the operation's own part (R29). -/
structure Continuation where
  next : Nat
  part : OpPart
  deriving DecidableEq, Repr

/-- The fault cause of a FAULTED context (R30). -/
inductive FaultCause where
  | store | satHigh | satLow | aborted
  deriving DecidableEq, Repr

/-- The record of a defined context (R22). Its back link is held by the order of the chain (R67; assumption log 10). -/
structure Context where
  state : ContextState
  owner : PortId
  block : Block
  startedBy : Option Starter
  nested : Bool
  continuation : Continuation
  seen : SatSet
  cause : Option FaultCause
  deriving DecidableEq, Repr

/-! ### Gate Table (03) -/

/-- The kind of a gate (R45). -/
inductive GateKind where
  | nest | queue
  deriving DecidableEq, Repr

/-- A present gate (R45). -/
structure Gate where
  kind : GateKind
  context : ContextId
  level : Level
  linePermitted : Bool
  deriving DecidableEq, Repr

/-! ### Trigger Unit (06) -/

/-- The source of a line's edges (R122). -/
inductive LineSource where
  | pin | timer
  deriving DecidableEq, Repr

/-- The qualifying edge of a line (R124). -/
inductive Edge where
  | rising | falling
  deriving DecidableEq, Repr

/-- The states of a trigger line (R122). -/
inductive LineState where
  | disabled | listening | debouncing | validating | pending | refused
  deriving DecidableEq, Repr

/-- The eight configuration fields of a line (R122). -/
structure LineConfig where
  enable : Bool
  source : LineSource
  edge : Edge
  debounce : Fin 64
  validation : Fin 64
  priority : Fin 8
  gate : GateId
  report : PortId
  deriving DecidableEq, Repr

/-- A line record with its two timers (R122). A running timer holds the milliseconds it was started for
(assumption log 12). -/
structure Line where
  config : LineConfig
  state : LineState
  debounceTimer : Option Nat
  validationTimer : Option Nat
  lastRefusal : Option Status
  lastStarted : Option ContextId
  deriving DecidableEq, Repr

/-- The interval timer (R141). -/
structure IntervalTimer where
  running : Bool
  reload : BitVec 16
  remaining : BitVec 16
  deriving DecidableEq, Repr

/-! ### Store Check Unit (07) -/

/-- The state of the check record (R144). -/
inductive CheckState where
  | idle | running | ended
  deriving DecidableEq, Repr

/-- A set of check steps (R144). -/
structure StepSet where
  reference : Bool
  pattern : Bool
  decode : Bool
  deriving DecidableEq, Repr

/-- The test in progress (R144). -/
inductive CurrentTest where
  | none
  | reference
  | page (p : PhysicalPage)
  | pair (a b : PhysicalPage)
  deriving DecidableEq, Repr

/-- The result of a selected page (R144). -/
inductive PageResult where
  | pass | failPattern | failDecode | skipped | notReached
  deriving DecidableEq, Repr

/-- The check record (R144). -/
structure CheckRecord where
  state : CheckState
  starter : Option PortId
  selected : PageSet
  steps : StepSet
  reference : Option TestOutcome
  omitted : StepSet
  current : CurrentTest
  results : Vector (Option PageResult) 64
  aborted : Bool
  deriving DecidableEq, Repr

/-! ### Port Units (08) -/

/-- A response: code byte echoed, status, and results; its frame adds L and the check byte (R161; assumption log 19). -/
structure Response where
  code : Byte
  status : Status
  results : List Byte
  deriving DecidableEq, Repr

/-- The response being shifted out in a select period, the bytes of the period so far, and whether it is still the
pending response (R168). -/
structure Outgoing where
  response : Response
  sent : Nat
  stillPending : Bool
  deriving DecidableEq, Repr

/-- The receive state of a port (R159); RECEIVING carries the frame in assembly, with its length L. -/
inductive ReceiveState where
  | waitLength
  | receiving (length : Nat) (bytes : List Byte)
  | discarding
  deriving DecidableEq, Repr

/-- The select period of a selected port (R163). -/
inductive SelectPeriod where
  | open | closed
  deriving DecidableEq, Repr

/-- A data run in progress (R13): the logical address of its next word; the words left and those read so far, or the
words still to write and the number written. -/
inductive DataRun where
  | read (next : LogicalAddress) (left : Nat) (got : List Word)
  | write (next : LogicalAddress) (rest : List Word) (written : Nat)
  deriving DecidableEq, Repr

/-- The state of a port (R159). `response` is the pending response. `receiveTimer` holds the milliseconds a running
timer was started for; `dataOut` is the byte its last byte exchange shifted out (8.10). -/
structure Port where
  level : Level
  selected : Bool
  receive : ReceiveState
  period : SelectPeriod
  timeout : Byte
  receiveTimer : Option Nat
  response : Option Response
  outgoing : Option Outgoing
  run : Option DataRun
  kept : Option (List Byte)
  dataOut : Byte
  deriving DecidableEq, Repr

/-! ### Event Unit (09) -/

/-- The outcome that a notice carries (R179). -/
inductive Ending where
  | done | faulted
  deriving DecidableEq, Repr

/-- What the Event Unit holds for one port: event flags, attention mask, completion set (one place for each context
slot, R180) and the attention output (R181). -/
structure PortEvents where
  flags : FlagSet
  mask : FlagSet
  completions : Vector (Option Ending) 32
  attention : Bool
  deriving DecidableEq, Repr

/-! ### The whole part -/

/-- Whether the part operates, or what keeps it from operating: its power-on start-up, its RESET line asserted, or both
at once (R177). -/
inductive Phase where
  | startingUp | resetAsserted | startingUpInReset | operating
  deriving DecidableEq, Repr

/-- The state of the part, and the queue of the commands and events that wait. -/
structure State where
  phase : Phase
  words : Memory
  faults : Vector FaultSet 64
  heldMarks : Vector Bool 64
  offline : Bool
  maps : Vector WindowMap 4
  contexts : Vector (Option Context) 32
  gates : Vector (Option Gate) 64
  chain : List ContextId
  ready : List ContextId
  heldSet : List ContextId
  lines : Vector Line 8
  pins : Vector PinLevel 8
  timer : IntervalTimer
  check : CheckRecord
  ports : Vector Port 4
  events : Vector PortEvents 4
  pending : List Instr
  deriving DecidableEq, Repr

/-- No event of the spec stops the part (R169, R30), so there is no reason of fault: the type has no constructor and
no meaning raises one (assumption log 18). Safe. -/
inductive Fault where
  deriving DecidableEq, Repr

/-- The reasons to refuse a command. -/
inductive Refusal where
  /-- Raised only by an arm of exec whose row has no meaning; no arm raises it. Safe. -/
  | notModelled (mnemonic : String)
  deriving DecidableEq, Repr

/-- The answer of a step. -/
abbrev Outcome := Host.Outcome State Fault Refusal

/-! ### Values after reset: those marked "Default." in the chapters -/

/-- A page with no fault (R3). -/
def noFaults : FaultSet := ⟨false, false, false⟩

/-- No saturation kind (R30). -/
def noSats : SatSet := ⟨false, false⟩

/-- No check step (R144). -/
def noSteps : StepSet := ⟨false, false, false⟩

/-- A window map with every entry ABSENT, physical page 0 (R6). -/
def absentMap : WindowMap := Vector.replicate 16 ⟨0, .absent⟩

/-- A line record at its defaults (R122, R143). -/
def Line.initial : Line :=
  { config := { enable := false, source := .pin, edge := .rising, debounce := Config.defaultDebounce,
                validation := Config.defaultValidation, priority := 0, gate := 0, report := 0 },
    state := .disabled, debounceTimer := none, validationTimer := none, lastRefusal := none, lastStarted := none }

/-- The interval timer at its defaults (R141). -/
def IntervalTimer.initial : IntervalTimer := ⟨false, Config.defaultReload, 0⟩

/-- The check record at its defaults (R144). -/
def CheckRecord.initial : CheckRecord :=
  { state := .idle, starter := none, selected := 0, steps := noSteps, reference := none, omitted := noSteps,
    current := .none, results := Vector.replicate 64 none, aborted := false }

/-- A port at its defaults (R159), strapped to a level, its select pin and data output as they stand. -/
def Port.initial (level : Level) (selected : Bool) (dataOut : Byte) : Port :=
  { level := level, selected := selected, receive := .waitLength, period := .open, timeout := Config.defaultTimeout,
    receiveTimer := none, response := none, outgoing := none, run := none, kept := none, dataOut := dataOut }

/-- A port's flags, mask and completion set, emptied (R186). -/
def PortEvents.initial : PortEvents := ⟨0, 0, Vector.replicate 32 none, false⟩

/-- The part right after power-on start-up or the release of the RESET line: every block at its defaults (R177). The
straps, the trigger pins, the selects and the data outputs are the board's and the masters': assumption log 5, 6, 13. -/
def State.reset : State :=
  { phase := .operating, words := [], faults := Vector.replicate 64 noFaults,
    heldMarks := Vector.replicate 64 false, offline := false, maps := Vector.replicate 4 absentMap,
    contexts := Vector.replicate 32 none, gates := Vector.replicate 64 none, chain := [], ready := [], heldSet := [],
    lines := Vector.replicate 8 Line.initial, pins := Vector.replicate 8 .low, timer := IntervalTimer.initial,
    check := CheckRecord.initial,
    ports := Vector.replicate 4 (Port.initial Config.resetLevel false Config.resetDataOut),
    events := Vector.replicate 4 PortEvents.initial, pending := [] }

end Sys2Proof.Machine
end

