-- ==== Sys2Proof/Machine/Flags.lean ====
section
/-! DEFINITION. Flag computations: saturation and its kinds (R99 to R102), and the event flags, attention masks and
attention outputs of the ports (R178, R181). -/

namespace Sys2Proof.Machine

/-! ### Saturation -/

/-- A saturation kind (R101). -/
inductive SatKind where
  | high | low
  deriving DecidableEq, Repr

/-- Replace an out-of-range value by the nearest bound, with the kind of saturation that occurs, if any (R101). -/
def saturate (lo hi v : Int) : Int × List SatKind :=
  if v > hi then (hi, [.high]) else if v < lo then (lo, [.low]) else (v, [])

/-- Saturation to a word (R101). -/
def saturate32 (v : Int) : Int × List SatKind := saturate (-2147483648) 2147483647 v

/-- Saturation of a 64-bit sum (R101). -/
def saturate64 (v : Int) : Int × List SatKind := saturate (-9223372036854775808) 9223372036854775807 v

/-- The arithmetic right shift, rounding toward minus infinity (R100). -/
def shiftRight (v : Int) (places : Nat) : Int := v / (2 ^ places : Nat)

/-- Add terms one by one to a 64-bit sum, saturating at each addition, and list the saturations in order (R101,
R111, R113). -/
def sum64 (start : Int) : List Int → Int × List SatKind
  | [] => (start, [])
  | t :: ts =>
    let first := saturate64 (start + t)
    let rest := sum64 first.1 ts
    (rest.1, first.2 ++ rest.2)

/-- Whether a set of saturation kinds holds a kind. -/
def satIn (m : SatSet) : SatKind → Bool
  | .high => m.high
  | .low => m.low

/-- The first saturation, in order of occurrence, whose kind the error mask holds (R102). -/
def firstMasked (m : SatSet) (sats : List SatKind) : Option SatKind := sats.find? (satIn m)

/-- The fault cause that a masked saturation gives (R102). -/
def causeOf : SatKind → FaultCause
  | .high => .satHigh
  | .low => .satLow

/-- Saturation seen gains every kind noted (R93 stage 6). -/
def gainSats (seen : SatSet) (sats : List SatKind) : SatSet :=
  ⟨seen.high || sats.contains .high, seen.low || sats.contains .low⟩

/-! ### Event flags (R178; bits of 11.2) -/

def flagCompletion : FlagSet := 0x01
def flagFault : FlagSet := 0x02
def flagTrigger : FlagSet := 0x04
def flagCheck : FlagSet := 0x08
def flagPage : FlagSet := 0x10
def flagOffline : FlagSet := 0x20

/-- A flag set as the byte of a frame (11.2). -/
def flagByte (f : FlagSet) : Byte := f.zeroExtend 8

/-- The flag set that a byte encodes; a set bit 6 or 7 names a member outside the six (R188). -/
def flagsOfByte (b : Byte) : Option FlagSet :=
  if b.getLsbD 6 || b.getLsbD 7 then none else some (b.truncate 6)

/-- The attention output follows flags and mask: asserted exactly when they share a member (R181). -/
def PortEvents.sync (e : PortEvents) : PortEvents := { e with attention := e.flags &&& e.mask != 0 }

/-- Raise flags (R178). -/
def PortEvents.raise (e : PortEvents) (f : FlagSet) : PortEvents := { e with flags := e.flags ||| f }.sync

/-- Clear flags (R184). -/
def PortEvents.clear (e : PortEvents) (f : FlagSet) : PortEvents := { e with flags := e.flags &&& ~~~f }.sync

/-- Replace the attention mask (R183). -/
def PortEvents.setMask (e : PortEvents) (m : FlagSet) : PortEvents := { e with mask := m }.sync

end Sys2Proof.Machine
end

