-- ==== Sys2Proof/Machine/Ops.lean ====
section
/-! DEFINITION. The named operations over the state: tables, the words of the store, translation, page state, ports and
their responses, event raising, the freeing of slots, and the taking of a command at its port. -/

namespace Sys2Proof.Machine

/-! ### Tables and accessors -/

/-- A table with one entry replaced. -/
def update {α : Type} {n : Nat} (v : Vector α n) (i : Fin n) (x : α) : Vector α n := v.set i x

def State.port (s : State) (p : PortId) : Port := s.ports[p]
def State.ctx (s : State) (c : ContextId) : Option Context := s.contexts[c]
def State.gate (s : State) (g : GateId) : Option Gate := s.gates[g]
def State.line (s : State) (l : LineId) : Line := s.lines[l]
def State.eventsAt (s : State) (p : PortId) : PortEvents := s.events[p]
def State.entry (s : State) (p : PortId) (l : LogicalPage) : MapEntry := (s.maps[p])[l]
def State.faultsOf (s : State) (g : PhysicalPage) : FaultSet := s.faults[g]
def State.heldMark (s : State) (g : PhysicalPage) : Bool := s.heldMarks[g]
def State.level (s : State) (p : PortId) : Level := (s.port p).level

def State.modPort (s : State) (p : PortId) (f : Port → Port) : State :=
  { s with ports := update s.ports p (f (s.port p)) }

def State.setCtx (s : State) (c : ContextId) (k : Option Context) : State :=
  { s with contexts := update s.contexts c k }

/-- Rewrite the record of a defined context; a FREE slot stays FREE. -/
def State.modCtx (s : State) (c : ContextId) (f : Context → Context) : State := s.setCtx c ((s.ctx c).map f)

def State.modLine (s : State) (l : LineId) (f : Line → Line) : State :=
  { s with lines := update s.lines l (f (s.line l)) }

def State.modEvents (s : State) (p : PortId) (f : PortEvents → PortEvents) : State :=
  { s with events := update s.events p (f (s.eventsAt p)) }

/-- A byte as an index below n, when it is one. -/
def indexOf (n : Nat) (b : Byte) : Option (Fin n) := if h : b.toNat < n then some ⟨b.toNat, h⟩ else none

/-! ### The words of the store (R1, R2) -/

/-- The word at a physical address; an address not listed reads 0 (R2). -/
def Memory.read : Memory → Nat → Word
  | [], _ => 0
  | (b, v) :: rest, a => if b = a then v else Memory.read rest a

/-- Replace the word at an address in full (R1), keeping the canonical form. -/
def Memory.write : Memory → Nat → Word → Memory
  | [], a, w => if w = 0 then [] else [(a, w)]
  | (b, v) :: rest, a, w =>
    if b < a then (b, v) :: Memory.write rest a w
    else if b = a then (if w = 0 then rest else (a, w) :: rest)
    else (if w = 0 then (b, v) :: rest else (a, w) :: (b, v) :: rest)

/-- Whether a physical address lies in a page (R1). -/
def inPage (g : PhysicalPage) (a : Nat) : Bool := g.val * Config.pageWords ≤ a && a < (g.val + 1) * Config.pageWords

/-- Every word of a page becomes 0 (R150). -/
def Memory.zeroPage (m : Memory) (g : PhysicalPage) : Memory := m.filter (fun cell => !inPage g cell.1)

/-- The canonical form: addresses strictly rising and inside the store, no entry holding 0. -/
abbrev Memory.wf (m : Memory) : Prop :=
  (m.map Prod.fst).Pairwise (· < ·) ∧ ∀ cell ∈ m, cell.2 ≠ 0 ∧ cell.1 < Config.storeWords

/-- Writes in order (R93 stage 5). -/
def Memory.writeAll (m : Memory) : List (Nat × Word) → Memory
  | [] => m
  | (a, w) :: rest => (m.write a w).writeAll rest

/-! ### Translation (R7) -/

/-- The logical page of a logical address: a div 256. -/
def logicalPageOf (a : LogicalAddress) : LogicalPage := ⟨a.toNat / 256, by have := a.isLt; omega⟩

/-- The window map entry through which port p reaches a logical address. -/
def State.entryFor (s : State) (p : PortId) (a : LogicalAddress) : MapEntry := s.entry p (logicalPageOf a)

/-- The physical word address: the entry's page × 256 + (a mod 256). -/
def State.physical (s : State) (p : PortId) (a : LogicalAddress) : Nat :=
  (s.entryFor p a).page.val * Config.pageWords + a.toNat % Config.pageWords

def Access.permitsRead : Access → Bool
  | .absent => false
  | .read => true
  | .readWrite => true

def Access.permitsWrite : Access → Bool
  | .absent => false
  | .read => false
  | .readWrite => true

/-- Whether a port's map has an entry with access other than ABSENT targeting the page (R3, R145). -/
def State.mapsPage (s : State) (p : PortId) (g : PhysicalPage) : Bool :=
  (List.finRange 16).any fun l => (s.entry p l).page = g && (s.entry p l).access ≠ .absent

/-! ### Page state (R3, R4, R5) -/

/-- A page carries a fault when its fault set is not empty. -/
def faulty (f : FaultSet) : Bool := f.pattern || f.decode || f.word

/-- A fault set with every kind of another removed (R21). -/
def removeKinds (f kinds : FaultSet) : FaultSet :=
  ⟨f.pattern && !kinds.pattern, f.decode && !kinds.decode, f.word && !kinds.word⟩

def State.carriesFault (s : State) (g : PhysicalPage) : Bool := faulty (s.faultsOf g)

/-- Change a page's fault set. -/
def State.modFaults (s : State) (g : PhysicalPage) (f : FaultSet → FaultSet) : State :=
  { s with faults := update s.faults g (f (s.faultsOf g)) }

/-- The first failing condition on a page that an access reaches, in the order OFFLINE, PAGE_FAULT, PAGE_HELD
(R12 checks 3, 5, 6; R13). -/
def State.pageRefusal (s : State) (g : PhysicalPage) : Option Status :=
  if s.offline then some .offline
  else if s.carriesFault g then some .pageFault
  else if s.heldMark g then some .pageHeld
  else none

/-! ### Events (R178) -/

/-- Raise flags at every port that `which` names. -/
def State.raiseAt (s : State) (which : PortId → Bool) (f : FlagSet) : State :=
  { s with events := Vector.ofFn fun p => if which p then (s.eventsAt p).raise f else s.eventsAt p }

/-- A word-check failure on a read: the page gains WORD and, where it did not hold it, PAGE is raised at every port
that maps the page (R17). -/
def State.wordCheckFailure (s : State) (g : PhysicalPage) : State :=
  if (s.faultsOf g).word then s
  else (s.modFaults g fun f => { f with word := true }).raiseAt (fun p => s.mapsPage p g) flagPage

/-! ### Contexts and ownership -/

/-- READY, RUNNING, PREEMPTED and HELD are the active states (R22). -/
def ContextState.isActive : ContextState → Bool
  | .ready | .running | .preempted | .held => true
  | .idle | .done | .faulted => false

/-- Whether a slot holds an active context owned by p. -/
def State.activeOwnedBy (s : State) (p : PortId) (c : ContextId) : Bool :=
  match s.ctx c with
  | some k => k.owner = p && k.state.isActive
  | none => false

/-- Whether a slot holds a context owned by p. -/
def State.ownedBy (s : State) (p : PortId) (c : ContextId) : Bool :=
  match s.ctx c with
  | some k => k.owner = p
  | none => false

/-- The map lock: p owns at least one active context (R9). -/
def State.mapLocked (s : State) (p : PortId) : Bool := (List.finRange 32).any (s.activeOwnedBy p)

/-- The running context: the head of the chain (R67). -/
def State.running (s : State) : Option ContextId := s.chain.head?

/-- The member after c in a chain. -/
def below (c : ContextId) : List ContextId → Option ContextId
  | [] => none
  | d :: rest => if d = c then rest.head? else below c rest

/-- The back link of a context: the context directly below it in the chain (R28, R67). -/
def State.backLink (s : State) (c : ContextId) : Option ContextId := below c s.chain

/-- Slots become FREE: their records and the notices for them go, at every port, and no line names them as last
started (R39, R40, R136). -/
def State.freeSlots (s : State) (which : ContextId → Bool) : State :=
  { s with
    contexts := Vector.ofFn fun c => if which c then none else s.ctx c
    events := Vector.ofFn fun p =>
      { s.eventsAt p with
        completions := Vector.ofFn fun c => if which c then none else (s.eventsAt p).completions[c] }
    lines := Vector.ofFn fun l =>
      { s.line l with lastStarted := (s.line l).lastStarted.filter fun c => !which c } }

/-! ### Responses (R161, R167) -/

/-- The bytes of a response frame (R161). -/
def Response.frame (r : Response) : List Byte := closeFrame (r.code :: r.status.toByte :: r.results)

/-- A response replaces the pending response; an outgoing response is then no longer the pending one (R167, R168). -/
def Port.respond (pt : Port) (r : Response) : Port :=
  { pt with response := some r, outgoing := pt.outgoing.map fun o => { o with stillPending := false } }

/-- Answer the command of code `code` at port p. -/
def State.answer (s : State) (p : PortId) (code : Byte) (status : Status) (results : List Byte) : State :=
  s.modPort p fun pt => pt.respond ⟨code, status, results⟩

/-- Answer with a status and no results. -/
def State.refuse (s : State) (p : PortId) (code : Byte) (status : Status) : State := s.answer p code status []

/-! ### Taking a command or an event -/

/-- An event while the part operates has its effect; while RESET is asserted or start-up runs it has none (R177;
assumption log 3). -/
def whenOperating (s : State) (effect : State → State) : Outcome :=
  match s.phase with
  | .operating => .next (effect s)
  | .startingUp => .next s
  | .resetAsserted => .next s
  | .startingUpInReset => .next s

/-- The port keeps a frame that completes during its data run; a second one is discarded (R14, R166). -/
def Port.keep (pt : Port) (frame : List Byte) : Port :=
  match pt.kept with
  | none => { pt with kept := some frame }
  | some _ => pt

/-- A command's frame completes at its port: the command is taken, unless the port's data run is in progress; then
the frame is kept (R14, R166; assumption log 1). -/
def takenAt (p : PortId) (i : Instr) (s : State) (effect : State → State) : Outcome :=
  whenOperating s fun s =>
    match (s.port p).run with
    | none => effect s
    | some _ => s.modPort p fun pt => pt.keep (encodeFrame i)

end Sys2Proof.Machine
end

