-- ==== Sys2Proof/Machine/Operands.lean ====
section
/-! DEFINITION. Operands: descriptors and element addresses (R24), the reading of a parameter block with its PARAM and
RANGE conditions (R25, R26, R188), the pages a context reaches and its span (R41). -/

namespace Sys2Proof.Machine

/-! ### Element addresses (R24) -/

/-- The base address of an array: logical page × 256 + offset. -/
def Descriptor.base (d : Descriptor) : Int := (d.page.val * 256 + d.offset.val : Nat)

/-- The address of element k before it is held in 12 bits: base + k × step. -/
def Descriptor.exactAddress (d : Descriptor) (k : Int) : Int := d.base + k * d.step

/-- The logical address of element k (R24, R92). RANGE (R26) keeps every checked address in 0 to 4095, so the 12 bits
drop nothing (assumption log 9). -/
def Descriptor.address (d : Descriptor) (k : Int) : LogicalAddress := BitVec.ofInt 12 (d.exactAddress k)

/-! ### The operands of an operation (R24, R41) -/

/-- An operand: its descriptor, the first of its element indices, their number, and whether it needs write access. -/
structure Operand where
  descriptor : Descriptor
  first : Int
  count : Nat
  writes : Bool
  deriving DecidableEq, Repr

/-- X, Y, Z of an operation with the element indices of R24 and the access of R41, for an element count N. -/
def Operation.operands (n : Nat) : Operation → List Operand
  | .copy x z => [⟨x, 0, n, false⟩, ⟨z, 0, n, true⟩]
  | .add x y z => [⟨x, 0, n, false⟩, ⟨y, 0, n, false⟩, ⟨z, 0, n, true⟩]
  | .sub x y z => [⟨x, 0, n, false⟩, ⟨y, 0, n, false⟩, ⟨z, 0, n, true⟩]
  | .mulq _ x y z => [⟨x, 0, n, false⟩, ⟨y, 0, n, false⟩, ⟨z, 0, n, true⟩]
  | .scale _ _ x z => [⟨x, 0, n, false⟩, ⟨z, 0, n, true⟩]
  | .offset _ x z => [⟨x, 0, n, false⟩, ⟨z, 0, n, true⟩]
  | .dot _ x y z => [⟨x, 0, n, false⟩, ⟨y, 0, n, false⟩, ⟨z, 0, 1, true⟩]
  | .fir m _ x y z => [⟨x, -((m - 1 : Nat) : Int), n + (m - 1), false⟩, ⟨y, 0, m, false⟩, ⟨z, 0, n, true⟩]
  | .firz m _ x y z => [⟨x, 0, n, false⟩, ⟨y, 0, m, false⟩, ⟨z, 0, n, true⟩]
  | .cmp _ _ x y z => [⟨x, 0, n, false⟩, ⟨y, 0, n, false⟩, ⟨z, 0, n + 1, true⟩]
  | .cmps _ _ _ x z => [⟨x, 0, n, false⟩, ⟨z, 0, n + 1, true⟩]
  | .peak x z => [⟨x, 0, n, false⟩, ⟨z, 0, 2, true⟩]
  | .reverse x => [⟨x, 0, n, true⟩]

def Block.operands (b : Block) : List Operand := b.operation.operands b.count

/-! ### Reading a parameter block -/

/-- A descriptor that passes R25: page 0 to 15, step −16 to −1 or 1 to 16. -/
def parseDescriptor (f : DescriptorFields) : Option Descriptor :=
  match indexOf 16 f.page with
  | none => none
  | some page =>
    if f.step.toInt = 0 ∨ f.step.toInt < -16 ∨ 16 < f.step.toInt then none
    else some ⟨page, ⟨f.offset.toNat, f.offset.isLt⟩, f.step.toInt⟩

/-- A shift of 0 to 31. -/
def parseShift (b : Byte) : Option Nat := if b.toNat ≤ 31 then some b.toNat else none

/-- Taps M of 1 to 64. -/
def parseTaps (b : Byte) : Option Nat := if 1 ≤ b.toNat ∧ b.toNat ≤ 64 then some b.toNat else none

/-- The relation codes of 11.2. -/
def parseRelation (b : Byte) : Option Relation :=
  match b.toNat with
  | 0 => some .lt
  | 1 => some .le
  | 2 => some .eq
  | 3 => some .ne
  | 4 => some .gt
  | 5 => some .ge
  | _ => none

/-- The element counts that REVERSE admits (R25). -/
def reverseCounts : List Nat := [2, 4, 8, 16, 32, 64, 128, 256, 512, 1024]

/-- The operation with its fields, by the operation codes of 11.2; a field that the operation does not use is passed
over (R25, R188). -/
def parseOperation (f : BlockFields) : Option Operation :=
  match f.operation.toNat with
  | 0x01 => do return .copy (← parseDescriptor f.x) (← parseDescriptor f.z)
  | 0x02 => do return .add (← parseDescriptor f.x) (← parseDescriptor f.y) (← parseDescriptor f.z)
  | 0x03 => do return .sub (← parseDescriptor f.x) (← parseDescriptor f.y) (← parseDescriptor f.z)
  | 0x04 => do
      return .mulq (← parseShift f.shift) (← parseDescriptor f.x) (← parseDescriptor f.y) (← parseDescriptor f.z)
  | 0x05 => do return .scale (← parseShift f.shift) f.scalar (← parseDescriptor f.x) (← parseDescriptor f.z)
  | 0x06 => do return .offset f.scalar (← parseDescriptor f.x) (← parseDescriptor f.z)
  | 0x07 => do
      return .dot (← parseShift f.shift) (← parseDescriptor f.x) (← parseDescriptor f.y) (← parseDescriptor f.z)
  | 0x08 => do
      return .fir (← parseTaps f.taps) (← parseShift f.shift) (← parseDescriptor f.x) (← parseDescriptor f.y)
        (← parseDescriptor f.z)
  | 0x09 => do
      return .firz (← parseTaps f.taps) (← parseShift f.shift) (← parseDescriptor f.x) (← parseDescriptor f.y)
        (← parseDescriptor f.z)
  | 0x0A => do
      return .cmp (← parseRelation f.relation) f.magnitude (← parseDescriptor f.x) (← parseDescriptor f.y)
        (← parseDescriptor f.z)
  | 0x0B => do
      return .cmps (← parseRelation f.relation) f.magnitude f.scalar (← parseDescriptor f.x) (← parseDescriptor f.z)
  | 0x0C => do return .peak (← parseDescriptor f.x) (← parseDescriptor f.z)
  | 0x0D => do
      if f.count.toNat ∈ reverseCounts then return .reverse (← parseDescriptor f.x) else none
  | _ => none

/-- The parameter block, when every condition of R25 passes. -/
def parseBlock (f : BlockFields) : Option Block :=
  match indexOf 8 f.priority, parseOperation f with
  | some priority, some operation =>
    if 1 ≤ f.count.toNat ∧ f.count.toNat ≤ 4096 then some ⟨operation, priority, f.mask, f.count.toNat⟩ else none
  | _, _ => none

/-- The range check of R26, on the two extreme indices of an operand. -/
def Operand.inRange (o : Operand) : Bool :=
  let a := o.descriptor.exactAddress o.first
  let b := o.descriptor.exactAddress (o.first + o.count - 1)
  0 ≤ a && a ≤ 4095 && 0 ≤ b && b ≤ 4095

/-- The range check of R26 on every operand that the operation uses. -/
def Block.inRange (b : Block) : Bool := b.operands.all Operand.inRange

/-- The parameter block that passes R25 and R26, or the refusal: PARAM before RANGE. -/
def checkBlock (f : BlockFields) : Except Status Block :=
  match parseBlock f with
  | none => .error .param
  | some b => if b.inRange then .ok b else .error .range

/-! ### Pages reached and span (R41) -/

/-- Whether one of the operand's checked addresses lies in a logical page. -/
def Operand.reaches (o : Operand) (l : LogicalPage) : Bool :=
  (List.range o.count).any fun j => logicalPageOf (o.descriptor.address (o.first + j)) = l

/-- Whether the block's checked addresses reach a logical page. -/
def Block.reaches (b : Block) (l : LogicalPage) : Bool := b.operands.any fun o => o.reaches l

/-- Whether an operand that writes reaches a logical page. -/
def Block.writesPage (b : Block) (l : LogicalPage) : Bool := b.operands.any fun o => o.writes && o.reaches l

/-- Check 8: every logical page reached has in the owner's map an entry with the access needed (R41, R57). -/
def State.accessGiven (s : State) (owner : PortId) (b : Block) : Bool :=
  (List.finRange 16).all fun l =>
    !b.reaches l ||
      (if b.writesPage l then (s.entry owner l).access.permitsWrite else (s.entry owner l).access.permitsRead)

/-- The span: the physical pages behind the logical pages reached, through the owner's map (R41). -/
def State.span (s : State) (owner : PortId) (b : Block) : List PhysicalPage :=
  ((List.finRange 16).filter b.reaches).map fun l => (s.entry owner l).page

/-! ### Initial continuation (R29) -/

def Operation.initialPart : Operation → OpPart
  | .copy .. | .add .. | .sub .. | .mulq .. | .scale .. | .offset .. | .fir .. | .firz .. | .reverse .. => .plain
  | .dot .. => .accumulator 0
  | .cmp .. | .cmps .. => .hits 0
  | .peak .. => .peak none

def Block.initialContinuation (b : Block) : Continuation := ⟨0, b.operation.initialPart⟩

end Sys2Proof.Machine
end

