-- ==== Sys2Proof/Machine/Invocation.lean ====
section
/-! DEFINITION. The shared operations of the run structure, of invocation and of the trigger service arbiter: leaving
the run structure and successor selection (R75, R84, R87), notices (R179, R180), the check sequence (R53), acceptance
and placement (R60, R72, R73), the service pass (R131 to R134), and the end of a context's run (R71, R76). -/

namespace Sys2Proof.Machine

/-! ### Order of the ready list and of the held set -/

/-- The priority of a slot's context (R68). -/
def State.priorityOf (s : State) (c : ContextId) : Nat :=
  match s.ctx c with
  | some k => k.block.priority.val
  | none => 0

/-- Enter a list behind the last entry of equal or higher priority, ahead of every lower one (R68). -/
def insertByPriority (priority : ContextId → Nat) (c : ContextId) : List ContextId → List ContextId
  | [] => [c]
  | d :: rest =>
    if priority c ≤ priority d then d :: insertByPriority priority c rest else c :: d :: rest

/-- Enter the held set, which is kept in ascending index order (R69, R89). -/
def insertAscending (c : ContextId) : List ContextId → List ContextId
  | [] => [c]
  | d :: rest => if d < c then d :: insertAscending c rest else if d = c then d :: rest else c :: d :: rest

/-! ### Leaving the run structure -/

def Context.withState (k : Context) (st : ContextState) : Context := { k with state := st }

/-- The head of the chain runs; with an empty chain the head of the ready list starts, if there is one (R75, R87). -/
def State.settle (s : State) : State :=
  match s.chain with
  | h :: _ => s.modCtx h fun k => k.withState .running
  | [] =>
    match s.ready with
    | [] => s
    | c :: rest => { s with chain := [c], ready := rest }.modCtx c fun k => k.withState .running

/-- Contexts leave their collections together. The rest keep their order, so each remaining member of the chain has
the next remaining one as back link, and the successor is chosen (R75, R82 to R84, R87). -/
def State.withdraw (s : State) (leaving : ContextId → Bool) : State :=
  { s with
    chain := s.chain.filter fun c => !leaving c
    ready := s.ready.filter fun c => !leaving c
    heldSet := s.heldSet.filter fun c => !leaving c }.settle

/-! ### Notices (R179, R180) -/

/-- The ports that receive a notice for a context: its owner, and its starter's port or its line's report port. -/
def State.noticePorts (s : State) (c : ContextId) (p : PortId) : Bool :=
  match s.ctx c with
  | none => false
  | some k =>
    p = k.owner ||
      match k.startedBy with
      | none => false
      | some (.port q) => p = q
      | some (.line l) => p = (s.line l).config.report

/-- The flags that a notice raises (R180). -/
def noticeFlags : Ending → FlagSet
  | .done => flagCompletion
  | .faulted => flagCompletion ||| flagFault

/-- A notice enters a completion set, as a new entry or replacing the entry's outcome, and raises its flags (R180). -/
def PortEvents.post (e : PortEvents) (c : ContextId) (ending : Ending) : PortEvents :=
  { e with completions := update e.completions c (some ending) }.raise (noticeFlags ending)

/-- Post the notice of a context at each of its notice ports (R179). -/
def State.postNotice (s : State) (c : ContextId) (ending : Ending) : State :=
  { s with events := Vector.ofFn fun p =>
      if s.noticePorts c p then (s.eventsAt p).post c ending else s.eventsAt p }

/-! ### The invocation check sequence (R53) -/

/-- Whether a gate admits an invoker (R47). -/
def State.admits (s : State) (g : Gate) : Starter → Bool
  | .port p => s.level p ≤ g.level
  | .line _ => g.linePermitted

/-- Checks 6 to 10 of R53, for a gate and its context's owner and block. -/
def State.checkPlacement (s : State) (g : Gate) (owner : PortId) (b : Block) : Except Status Gate :=
  if g.kind = .nest ∧ Config.chainDepth ≤ s.chain.length then .error .nestDepth
  else if s.offline then .error .offline
  else if !s.accessGiven owner b then .error .mapAccess
  else if (s.span owner b).any s.carriesFault then .error .pageFault
  else if (s.span owner b).any s.heldMark then .error .pageHeld
  else .ok g

/-- The ten checks of R53, in order, on the gate an invocation names (`none`: index above 63, or an absent gate).
Check 6 concerns a NEST gate while a context is RUNNING; a chain of 4 has one (R56). -/
def State.checkInvocation (s : State) (gate : Option Gate) (who : Starter) : Except Status Gate :=
  match gate with
  | none => .error .noGate
  | some g =>
    if !s.admits g who then .error .denied
    else
      match s.ctx g.context with
      | none => .error .noContext
      | some k =>
        if k.state = .faulted then .error .ctxFaulted
        else if k.state.isActive then .error .busy
        else s.checkPlacement g k.owner k.block

/-! ### Acceptance and placement (R60, R72, R73) -/

/-- The record that an acceptance writes (R60). -/
def Context.accepted (k : Context) (who : Starter) (st : ContextState) (nested : Bool) : Context :=
  { k with state := st, startedBy := some who, nested := nested, continuation := k.block.initialContinuation,
           seen := noSats, cause := none }

/-- The state that a placement gives (R72, R73). -/
def State.placedState (s : State) (kind : GateKind) : ContextState :=
  match s.chain, kind with
  | [], _ => .running
  | _ :: _, .nest => .running
  | _ :: _, .queue => .ready

/-- Accept and place a context: RUNNING alone when nothing runs; else READY through a QUEUE gate, or over the runner
through a NEST gate (R72, R73). -/
def State.accept (s : State) (c : ContextId) (kind : GateKind) (who : Starter) : State :=
  match s.chain with
  | [] => { s.modCtx c (fun k => k.accepted who .running false) with chain := [c] }
  | runner :: _ =>
    match kind with
    | .queue =>
      { s.modCtx c (fun k => k.accepted who .ready false) with ready := insertByPriority s.priorityOf c s.ready }
    | .nest =>
      { (s.modCtx runner fun k => k.withState .preempted).modCtx c (fun k => k.accepted who .running true) with
        chain := c :: s.chain }

/-! ### The trigger service arbiter (R130 to R134) -/

/-- BUSY, NEST_DEPTH and PAGE_HELD are transient for lines (R59, R133). -/
def isTransient : Status → Bool
  | .busy | .nestDepth | .pageHeld => true
  | .ok | .checksum | .length | .unknown | .param | .denied | .range | .state | .noGate | .noContext | .ctxFaulted
  | .offline | .mapAccess | .mapLocked | .pageFault | .pageInUse | .wordFault | .chained => false

/-- A line back in LISTENING with its timers stopped. -/
def Line.toListening (n : Line) : Line :=
  { n with state := .listening, debounceTimer := none, validationTimer := none }

/-- The line's record when its invocation of context c is accepted (R132). -/
def Line.served (n : Line) (c : ContextId) : Line :=
  { n.toListening with lastRefusal := none, lastStarted := some c }

/-- Invoke a PENDING line's gate on its behalf: acceptance (R132), transient refusal (R133), or permanent refusal with
TRIGGER at the report port (R134). -/
def State.serveLine (s : State) (l : LineId) : State :=
  match s.checkInvocation (s.gate (s.line l).config.gate) (.line l) with
  | .ok g => (s.accept g.context g.kind (.line l)).modLine l fun n => n.served g.context
  | .error code =>
    if isTransient code then s.modLine l fun n => { n with lastRefusal := some code }
    else
      (s.modLine l fun n => { n with state := .refused, lastRefusal := some code }).raiseAt
        (fun p => p = (s.line l).config.report) flagTrigger

/-- The PENDING lines in service order: priority 7 first, within a priority the lower line number first (R131). -/
def State.pendingLines (s : State) : List LineId :=
  ([7, 6, 5, 4, 3, 2, 1, 0] : List (Fin 8)).flatMap fun pr =>
    (List.finRange 8).filter fun l => (s.line l).state = .pending && (s.line l).config.priority = pr

/-- One service pass over the lines PENDING at its start, each once, each against what the ones before it left
(R130, R131). -/
def State.servicePass (s : State) : State := s.pendingLines.foldl State.serveLine s

/-- The service opportunity that an event gives only on a condition (R71). -/
def State.serviceIf (s : State) (opportunity : Bool) : State := if opportunity then s.servicePass else s

/-! ### The end of a context's run (R71, R76, R81) -/

/-- The record of a context that has ended: inactive, with no place in the chain (R75, R81). -/
def Context.ended (k : Context) (st : ContextState) (cause : Option FaultCause) : Context :=
  { k with state := st, nested := false, cause := cause }

/-- A context becomes DONE: it leaves the head, the successor is chosen, its notices are posted and one service pass is
made, in the order of R71. -/
def State.completeContext (s : State) (c : ContextId) : State :=
  (((s.modCtx c fun k => k.ended .done none).withdraw (· = c)).postNotice c .done).servicePass

/-- A context becomes FAULTED with a cause: it leaves its collection, the successor is chosen where it was the head,
its notices are posted and one service pass is made (R71, R75, R81 to R84, R97). -/
def State.faultContext (s : State) (c : ContextId) (cause : FaultCause) : State :=
  (((s.modCtx c fun k => k.ended .faulted (some cause)).withdraw (· = c)).postNotice c .faulted).servicePass

end Sys2Proof.Machine
end

