-- ==== Sys2Proof/Machine/Records.lean ====
section
/-! DEFINITION. The result bytes of the commands that read: maps, page state, contexts, gates, the run structure, lines,
the check record and completion sets (tables 11.2 and 11.3, R189). -/

namespace Sys2Proof.Machine

/-- The code of an absent byte field (R189). -/
def absentByte : Byte := 0xFF

def indexByte {n : Nat} (i : Fin n) : Byte := byteOfNat i.val

/-- An index, or FFH where it is absent. -/
def optionIndexByte {n : Nat} : Option (Fin n) → Byte
  | none => absentByte
  | some i => indexByte i

/-! ### Maps and pages -/

def accessByte : Access → Byte
  | .absent => 0x00
  | .read => 0x01
  | .readWrite => 0x02

/-- An access code of 11.2; any other is refused PARAM (R188). -/
def parseAccess (b : Byte) : Option Access :=
  match b.toNat with
  | 0 => some .absent
  | 1 => some .read
  | 2 => some .readWrite
  | _ => none

def MapEntry.bytes (e : MapEntry) : List Byte := [indexByte e.page, accessByte e.access]

/-- The page state byte: bits 0 to 2 the fault kinds, bit 7 HELD (11.2). -/
def State.pageStateByte (s : State) (g : PhysicalPage) : Byte :=
  (s.faultsOf g).toByte ||| (if s.heldMark g then 0x80#8 else 0x00#8)

/-! ### Contexts (R36, R189) -/

def contextStateByte : ContextState → Byte
  | .idle => 0x01
  | .ready => 0x02
  | .running => 0x03
  | .preempted => 0x04
  | .held => 0x05
  | .done => 0x06
  | .faulted => 0x07

def causeByte : Option FaultCause → Byte
  | none => 0x00
  | some .store => 0x01
  | some .satHigh => 0x02
  | some .satLow => 0x03
  | some .aborted => 0x04

def starterByte : Option Starter → Byte
  | none => absentByte
  | some (.port p) => indexByte p
  | some (.line l) => 0x10#8 ||| indexByte l

def Relation.byte : Relation → Byte
  | .lt => 0x00
  | .le => 0x01
  | .eq => 0x02
  | .ne => 0x03
  | .gt => 0x04
  | .ge => 0x05

/-- A descriptor as three bytes, the step as a signed byte (11.2). -/
def Descriptor.bytes (d : Descriptor) : List Byte :=
  [indexByte d.page, indexByte d.offset, BitVec.ofInt 8 d.step]

/-- An absent descriptor: page FFH, offset 00H, step 00H (R189). -/
def absentDescriptor : List Byte := [absentByte, 0x00, 0x00]

/-- The fields of an operation in the order of the parameter block: code; M, shift, W, relation, magnitude; X, Y, Z.
A field not given is absent: FFH in every byte (R189). -/
def operationFields (taps shift : Byte) (scalar : List Byte) (relation magnitude : Byte) (x y z : List Byte) :
    List Byte :=
  [taps, shift] ++ scalar ++ [relation, magnitude] ++ x ++ y ++ z

def absentScalar : List Byte := [absentByte, absentByte, absentByte, absentByte]

def Operation.codeByte : Operation → Byte
  | .copy .. => 0x01
  | .add .. => 0x02
  | .sub .. => 0x03
  | .mulq .. => 0x04
  | .scale .. => 0x05
  | .offset .. => 0x06
  | .dot .. => 0x07
  | .fir .. => 0x08
  | .firz .. => 0x09
  | .cmp .. => 0x0A
  | .cmps .. => 0x0B
  | .peak .. => 0x0C
  | .reverse .. => 0x0D

/-- Bytes 6 to 22 of the parameter block (11.3). -/
def Operation.fieldBytes : Operation → List Byte
  | .copy x z | .peak x z =>
      operationFields absentByte absentByte absentScalar absentByte absentByte x.bytes absentDescriptor z.bytes
  | .add x y z | .sub x y z =>
      operationFields absentByte absentByte absentScalar absentByte absentByte x.bytes y.bytes z.bytes
  | .mulq sh x y z | .dot sh x y z =>
      operationFields absentByte (byteOfNat sh) absentScalar absentByte absentByte x.bytes y.bytes z.bytes
  | .scale sh w x z =>
      operationFields absentByte (byteOfNat sh) (bytes32 w) absentByte absentByte x.bytes absentDescriptor z.bytes
  | .offset w x z =>
      operationFields absentByte absentByte (bytes32 w) absentByte absentByte x.bytes absentDescriptor z.bytes
  | .fir m sh x y z | .firz m sh x y z =>
      operationFields (byteOfNat m) (byteOfNat sh) absentScalar absentByte absentByte x.bytes y.bytes z.bytes
  | .cmp r mag x y z =>
      operationFields absentByte absentByte absentScalar r.byte (boolByte mag) x.bytes y.bytes z.bytes
  | .cmps r mag w x z =>
      operationFields absentByte absentByte (bytes32 w) r.byte (boolByte mag) x.bytes absentDescriptor z.bytes
  | .reverse x =>
      operationFields absentByte absentByte absentScalar absentByte absentByte x.bytes absentDescriptor absentDescriptor

/-- The 22 bytes of a parameter block (11.3). -/
def Block.bytes (b : Block) : List Byte :=
  [b.operation.codeByte, indexByte b.priority, b.mask.toByte] ++ bytes16 (BitVec.ofNat 16 b.count) ++
    b.operation.fieldBytes

/-- The eight bytes of the operation part (11.3); an absent peak record has value bytes FFH and index FFFFH. -/
def OpPart.bytes : OpPart → List Byte
  | .plain => List.replicate 8 0x00
  | .accumulator a => bytes64 a
  | .hits h => bytes16 (BitVec.ofNat 16 h) ++ List.replicate 6 0x00
  | .peak none => List.replicate 6 absentByte ++ [0x00, 0x00]
  | .peak (some (v, i)) => bytes32 v ++ bytes16 (BitVec.ofNat 16 i) ++ [0x00, 0x00]

/-- The 39 bytes of READ_CONTEXT for a FREE slot (R189). -/
def freeRecord : List Byte :=
  [0x00, absentByte] ++ List.replicate 22 absentByte ++ [absentByte, absentByte, 0x00, absentByte, absentByte] ++
    List.replicate 8 absentByte ++ [0x00, 0x00]

/-- The 39 bytes of READ_CONTEXT for a slot (11.3, R189). -/
def State.contextRecord (s : State) (c : ContextId) : List Byte :=
  match s.ctx c with
  | none => freeRecord
  | some k =>
    [contextStateByte k.state, indexByte k.owner] ++ k.block.bytes ++
      [starterByte k.startedBy, optionIndexByte (s.backLink c), boolByte k.nested] ++
      bytes16 (BitVec.ofNat 16 k.continuation.next) ++ k.continuation.part.bytes ++
      [k.seen.toByte, causeByte k.cause]

/-! ### Gates and the run structure -/

def gateKindByte : GateKind → Byte
  | .nest => 0x00
  | .queue => 0x01

/-- The five bytes of a gate in READ_GATE; the fields of an absent gate are FFH (R51, R189). -/
def gateBytes : Option Gate → List Byte
  | none => [0x00, absentByte, absentByte, absentByte, absentByte]
  | some g => [0x01, gateKindByte g.kind, indexByte g.context, indexByte g.level, boolByte g.linePermitted]

/-- A count byte and the indices of a list (11.3). -/
def listBytes (cs : List ContextId) : List Byte := byteOfNat cs.length :: cs.map indexByte

/-- The results of READ_RUN (R89). -/
def State.runBytes (s : State) : List Byte :=
  optionIndexByte s.running :: (listBytes s.chain ++ listBytes s.ready ++ listBytes s.heldSet)

/-! ### Lines and the interval timer (R140) -/

def lineStateByte : LineState → Byte
  | .disabled => 0x00
  | .listening => 0x01
  | .debouncing => 0x02
  | .validating => 0x03
  | .pending => 0x04
  | .refused => 0x05

def sourceByte : LineSource → Byte
  | .pin => 0x00
  | .timer => 0x01

def edgeByte : Edge → Byte
  | .rising => 0x00
  | .falling => 0x01

/-- The eight configuration fields, in the order of CONFIG_LINE (11.3). -/
def LineConfig.bytes (g : LineConfig) : List Byte :=
  [boolByte g.enable, sourceByte g.source, edgeByte g.edge, indexByte g.debounce, indexByte g.validation,
   indexByte g.priority, indexByte g.gate, indexByte g.report]

/-- An absent last refusal is 00H, an absent last started FFH (11.2). -/
def Line.bytes (n : Line) : List Byte :=
  n.config.bytes ++ [lineStateByte n.state, (n.lastRefusal.map Status.toByte).getD 0x00,
    optionIndexByte n.lastStarted]

/-- The pin levels: bit j for line j, 1 for high (11.3). -/
def State.pinsByte (s : State) : Byte := byteOfBits (s.pins.toList.map (· = .high))

/-- The results of READ_LINES (R140). -/
def State.linesBytes (s : State) : List Byte :=
  s.lines.toList.flatMap Line.bytes ++ [s.pinsByte, boolByte s.timer.running] ++ bytes16 s.timer.reload ++
    bytes16 s.timer.remaining

/-! ### The check record (R157, R189) -/

def checkStateByte : CheckState → Byte
  | .idle => 0x00
  | .running => 0x01
  | .ended => 0x02

def referenceByte : Option TestOutcome → Byte
  | none => 0x00
  | some .pass => 0x01
  | some .fail => 0x02

def StepSet.byte (t : StepSet) : Byte := byteOfBits [t.reference, t.pattern, t.decode]

def CurrentTest.bytes : CurrentTest → List Byte
  | .none => [0x00, absentByte, absentByte]
  | .reference => [0x01, absentByte, absentByte]
  | .page g => [0x02, indexByte g, absentByte]
  | .pair a b => [0x03, indexByte a, indexByte b]

def resultByte : Option PageResult → Byte
  | none => 0x00
  | some .pass => 0x01
  | some .failPattern => 0x02
  | some .failDecode => 0x03
  | some .skipped => 0x04
  | some .notReached => 0x05

/-- The results of READ_CHECK (R157). -/
def CheckRecord.bytes (r : CheckRecord) : List Byte :=
  [checkStateByte r.state, optionIndexByte r.starter] ++ pageSetBytes r.selected ++
    [r.steps.byte, referenceByte r.reference, r.omitted.byte] ++ r.current.bytes ++ [boolByte r.aborted] ++
    r.results.toList.map resultByte

/-! ### Events (R182, R185) -/

def endingByte : Ending → Byte
  | .done => 0x00
  | .faulted => 0x01

/-- The entries of a completion set in ascending context order (R185). -/
def PortEvents.entries (e : PortEvents) : List (ContextId × Ending) :=
  (List.finRange 32).filterMap fun c => (e.completions[c]).map fun o => (c, o)

/-- The results of READ_COMPLETIONS: a count and its entries (11.3). -/
def PortEvents.completionBytes (e : PortEvents) : List Byte :=
  byteOfNat e.entries.length :: e.entries.flatMap fun x => [indexByte x.1, endingByte x.2]

/-- The results of READ_EVENTS: flags, mask, number of entries (R182). -/
def PortEvents.eventBytes (e : PortEvents) : List Byte :=
  [flagByte e.flags, flagByte e.mask, byteOfNat e.entries.length]

end Sys2Proof.Machine
end

