-- ==== Sys2Proof/Machine/ArrayExecution.lean ====
section
/-! DEFINITION. The Array Execution Unit: the element step (R93) and the thirteen array operations (R104 to R121). -/

namespace Sys2Proof.Machine

/-! ### Indices -/

/-- The number of bits of REVERSE's indices: log₂ N (R120). -/
def indexBits (n : Nat) : Nat := Nat.log2 n

/-- The bit reversal of an index within b bits: bit i of the result is bit b−1−i of n (R120). -/
def bitReverse (b n : Nat) : Nat := (List.range b).foldl (fun r i => 2 * r + n / 2 ^ i % 2) 0

/-- The number of products of a FIRZ step at index n: m = 0 up to the smaller of n and M − 1 (R112). -/
def firzTerms (taps n : Nat) : Nat := min n (taps - 1) + 1

/-- The input addresses X[n], X[n−1], … of a filter step (R111, R112). -/
def historyAddresses (x : Descriptor) (n terms : Nat) : List LogicalAddress :=
  (List.range terms).map fun (m : Nat) => x.address ((n : Int) - (m : Int))

/-- The addresses Y[0], Y[1], … of the tap words. -/
def tapAddresses (y : Descriptor) (taps : Nat) : List LogicalAddress :=
  (List.range taps).map fun (m : Nat) => y.address (m : Int)

/-! ### Reads of a step, in order (table 5.9) -/

/-- The logical addresses that the step at index n of N reads, in the operation's read order. -/
def Operation.reads (count n : Nat) : Operation → List LogicalAddress
  | .copy x _ => [x.address n]
  | .add x y _ => [x.address n, y.address n]
  | .sub x y _ => [x.address n, y.address n]
  | .mulq _ x y _ => [x.address n, y.address n]
  | .scale _ _ x _ => [x.address n]
  | .offset _ x _ => [x.address n]
  | .dot _ x y _ => [x.address n, y.address n]
  | .fir taps _ x y _ => historyAddresses x n taps ++ tapAddresses y taps
  | .firz taps _ x y _ => historyAddresses x n (firzTerms taps n) ++ tapAddresses y taps
  | .cmp _ _ x y _ => [x.address n, y.address n]
  | .cmps _ _ _ x _ => [x.address n]
  | .peak x _ => [x.address n]
  | .reverse x =>
    let r := bitReverse (indexBits count) n
    if n < r then [x.address n, x.address r] else []

/-! ### Results of a step -/

/-- What stage 3 forms: the words to write, in order, the saturations, in order, and the operation part to record. -/
structure StepResult where
  writes : List (LogicalAddress × Word)
  sats : List SatKind
  part : OpPart
  deriving DecidableEq, Repr

/-- One result word, saturated to 32 bits (R101). -/
def wordResult (z : LogicalAddress) (value : Int) (part : OpPart) : StepResult :=
  ⟨[(z, BitVec.ofInt 32 (saturate32 value).1)], (saturate32 value).2, part⟩

/-- A filter's result: the products added one by one, shifted and saturated (R111 to R113). -/
def filterResult (z : LogicalAddress) (shift : Nat) (terms : List Int) (part : OpPart) : StepResult :=
  let sum := sum64 0 terms
  let out := saturate32 (shiftRight sum.1 shift)
  ⟨[(z, BitVec.ofInt 32 out.1)], sum.2 ++ out.2, part⟩

/-- The products X[n−m] × Y[m] for m = 0 up to `terms` − 1 (R111, R112). -/
def products (read : LogicalAddress → Int) (x y : Descriptor) (n terms : Nat) : List Int :=
  (List.range terms).map fun (m : Nat) => read (x.address ((n : Int) - (m : Int))) * read (y.address (m : Int))

/-- The comparison of CMP and CMPS (R115). -/
def Relation.holds (r : Relation) (a b : Int) : Bool :=
  match r with
  | .lt => a < b
  | .le => a ≤ b
  | .eq => a = b
  | .ne => a ≠ b
  | .gt => b < a
  | .ge => b ≤ a

/-- A compared value: the word, or its magnitude (R115). -/
def compared (magnitude : Bool) (v : Int) : Int := if magnitude then (v.natAbs : Int) else v

/-- The writes and the hit count of a compare step: the hit index at Z[1 + h], then, at the last step, the count at Z[0]
(R116). -/
def hitResult (z : Descriptor) (count n h : Nat) (hit : Bool) : StepResult :=
  let h' := if hit then h + 1 else h
  let index := if hit then [(z.address (1 + h : Nat), BitVec.ofNat 32 n)] else []
  let total := if n + 1 = count then [(z.address 0, BitVec.ofNat 32 h')] else []
  ⟨index ++ total, [], .hits h'⟩

/-- The hit count in a continuation. -/
def OpPart.hitCount : OpPart → Nat
  | .hits h => h
  | .plain | .accumulator _ | .peak _ => 0

/-- The accumulator in a continuation. -/
def OpPart.sum : OpPart → Int
  | .accumulator a => a.toInt
  | .plain | .hits _ | .peak _ => 0

/-- The peak record after element n holds word v: it takes (v, n) where it is absent or v has strictly greater magnitude
(R118). -/
def OpPart.peakAfter (part : OpPart) (v : Word) (n : Nat) : Word × Nat :=
  match part with
  | .peak (some (w, i)) => if w.toInt.natAbs < v.toInt.natAbs then (v, n) else (w, i)
  | .peak none | .plain | .accumulator _ | .hits _ => (v, n)

/-- A DOT step: the product enters the accumulator, saturated at 64 bits; at the last step the new sum is shifted,
saturated to 32 bits and written at Z[0] (R109). -/
def dotResult (z : Descriptor) (shift count n : Nat) (sum product : Int) : StepResult :=
  let acc := saturate64 (sum + product)
  let out := saturate32 (shiftRight acc.1 shift)
  if n + 1 = count then
    ⟨[(z.address 0, BitVec.ofInt 32 out.1)], acc.2 ++ out.2, .accumulator (BitVec.ofInt 64 acc.1)⟩
  else ⟨[], acc.2, .accumulator (BitVec.ofInt 64 acc.1)⟩

/-- Stage 3 of the step at index n of N: results, saturations and operation part, from the words read (R104 to R121). -/
def Operation.results (count n : Nat) (part : OpPart) (read : LogicalAddress → Word) : Operation → StepResult
  | .copy x z => ⟨[(z.address n, read (x.address n))], [], part⟩
  | .add x y z => wordResult (z.address n) ((read (x.address n)).toInt + (read (y.address n)).toInt) part
  | .sub x y z => wordResult (z.address n) ((read (x.address n)).toInt - (read (y.address n)).toInt) part
  | .mulq sh x y z =>
    wordResult (z.address n) (shiftRight ((read (x.address n)).toInt * (read (y.address n)).toInt) sh) part
  | .scale sh w x z => wordResult (z.address n) (shiftRight ((read (x.address n)).toInt * w.toInt) sh) part
  | .offset w x z => wordResult (z.address n) ((read (x.address n)).toInt + w.toInt) part
  | .dot sh x y z =>
    dotResult z sh count n part.sum ((read (x.address n)).toInt * (read (y.address n)).toInt)
  | .fir taps sh x y z => filterResult (z.address n) sh (products (fun a => (read a).toInt) x y n taps) part
  | .firz taps sh x y z =>
    filterResult (z.address n) sh (products (fun a => (read a).toInt) x y n (firzTerms taps n)) part
  | .cmp rel mag x y z =>
    hitResult z count n part.hitCount
      (rel.holds (compared mag (read (x.address n)).toInt) (compared mag (read (y.address n)).toInt))
  | .cmps rel mag w x z =>
    hitResult z count n part.hitCount
      (rel.holds (compared mag (read (x.address n)).toInt) (compared mag w.toInt))
  | .peak x z =>
    let best := part.peakAfter (read (x.address n)) n
    ⟨if n + 1 = count then [(z.address 0, best.1), (z.address 1, BitVec.ofNat 32 best.2)] else [], [],
      .peak (some best)⟩
  | .reverse x =>
    let r := bitReverse (indexBits count) n
    ⟨if n < r then [(x.address n, read (x.address r)), (x.address r, read (x.address n))] else [], [], part⟩

/-! ### The element step (R93) -/

/-- Stage 1: OFFLINE is clear and no page of the span carries a fault (R94). -/
def State.storeCheckPasses (s : State) (k : Context) : Bool :=
  !s.offline && !(s.span k.owner k.block).any s.carriesFault

/-- The word at a logical address of a port (R92). -/
def State.readLogical (s : State) (p : PortId) (a : LogicalAddress) : Word := s.words.read (s.physical p a)

/-- The address whose read fails its word check, if one of the step's reads does (R95). -/
def failingAddress (reads : List LogicalAddress) : Option Nat → Option LogicalAddress
  | none => none
  | some i => reads[i]?

/-- The results of the step of context k (stage 3). -/
def State.stepResult (s : State) (k : Context) : StepResult :=
  k.block.operation.results k.block.count k.continuation.next k.continuation.part (s.readLogical k.owner)

/-- Stage 5: the result words, in the write order, through the owner's map. -/
def State.writeResults (s : State) (p : PortId) (ws : List (LogicalAddress × Word)) : State :=
  { s with words := s.words.writeAll (ws.map fun w => (s.physical p w.1, w.2)) }

/-- Stage 6: the operation part, saturation seen, and n. -/
def Context.advanced (k : Context) (r : StepResult) : Context :=
  { k with continuation := ⟨k.continuation.next + 1, r.part⟩, seen := gainSats k.seen r.sats }

/-- Stages 5 to 7: writes, record, and DONE when n equals N (R96). -/
def State.finishStep (s : State) (c : ContextId) (k : Context) (r : StepResult) : State :=
  let written := (s.writeResults k.owner r.writes).modCtx c fun x => x.advanced r
  if k.continuation.next + 1 = k.block.count then written.completeContext c else written

/-- The step of the RUNNING context c, with the position of the first read that fails its word check, if any (R93). -/
def State.stepContext (s : State) (c : ContextId) (k : Context) (failingRead : Option Nat) : State :=
  if !s.storeCheckPasses k then s.faultContext c .store
  else
    match failingAddress (k.block.operation.reads k.block.count k.continuation.next) failingRead with
    | some a => (s.wordCheckFailure (s.entryFor k.owner a).page).faultContext c .store
    | none =>
      match firstMasked k.block.mask (s.stepResult k).sats with
      | some kind => s.faultContext c (causeOf kind)
      | none => s.finishStep c k (s.stepResult k)

/-- An element step of the context that RC names as running; no step is taken while none runs (R90). -/
def State.elementStep (s : State) (failingRead : Option Nat) : State :=
  match s.running with
  | none => s
  | some c =>
    match s.ctx c with
    | none => s
    | some k => s.stepContext c k failingRead

def execElementStep (failingRead : Option Nat) (s : State) : Outcome :=
  whenOperating s fun s => s.elementStep failingRead

end Sys2Proof.Machine
end

