-- ==== Sys2Proof/Machine/StoreCheck.lean ====
section
/-! DEFINITION. The Store Check Unit: START_CHECK (R145, R146), ABORT_CHECK (R155), READ_CHECK (R157), the completions
of the reference, page and pair tests (R148 to R151) and the end of a check (R154). -/

namespace Sys2Proof.Machine

/-! ### Shared operations -/

/-- Rewrite the check record. -/
def State.modCheck (s : State) (f : CheckRecord → CheckRecord) : State := { s with check := f s.check }

/-- Set the result of a page. -/
def CheckRecord.withResult (r : CheckRecord) (g : PhysicalPage) (x : PageResult) : CheckRecord :=
  { r with results := update r.results g (some x) }

/-- Whether a page failed a test of the check (R154 step 6). -/
def CheckRecord.failed (r : CheckRecord) (g : PhysicalPage) : Bool :=
  r.results[g] = some .failPattern || r.results[g] = some .failDecode

/-- Step 1 of R154: after a passed reference test, a page still NOT_REACHED becomes PASS, unless the check was aborted. -/
def CheckRecord.settleResults (r : CheckRecord) : CheckRecord :=
  if !r.aborted && r.reference = some .pass then
    { r with results := Vector.ofFn fun g : PhysicalPage =>
        if r.results[g] = some .notReached then some .pass else r.results[g] }
  else r

/-- Steps 1, 2 and 4 of R154 on the record: the current test stays in an aborted record. -/
def CheckRecord.ended (r : CheckRecord) : CheckRecord :=
  { r.settleResults with state := .ended, current := if r.aborted then r.current else .none }

/-- Whether p is the starter port of a check (R154 step 5). -/
def CheckRecord.startedAt (r : CheckRecord) (p : PortId) : Bool := r.starter = some p

/-- The ports that receive PAGE at the end of a check: those whose maps target a page that failed (R154 step 6). -/
def State.mapsFailed (s : State) (p : PortId) : Bool :=
  (List.finRange 64).any fun g => s.check.failed g && s.mapsPage p g

/-- Steps 1 to 4 of R154: the record is ended and the HELD marks of the selected pages are cleared. -/
def State.closeCheck (s : State) : State :=
  { s with
    check := s.check.ended
    heldMarks := Vector.ofFn fun g => s.heldMark g && !s.check.selected.getLsbD g.val }

/-- The end of a check, in the order of R154: the record and the marks, CHECK at the starter, PAGE for the pages that
failed, one service pass. -/
def State.endCheck (s : State) : State :=
  let closed := s.closeCheck
  ((closed.raiseAt closed.check.startedAt flagCheck).raiseAt closed.mapsFailed flagPage).servicePass

/-- A page eligible for DECODE: selected, not SKIPPED, carrying no fault (R151; assumption log 16). -/
def State.eligible (s : State) (g : PhysicalPage) : Bool :=
  s.check.selected.getLsbD g.val && s.check.results[g] ≠ some .skipped && !s.carriesFault g

/-- The pairs (a, b) of eligible pages, a less than b, in ascending order, first by a, then by b (R151). -/
def State.eligiblePairs (s : State) : List (PhysicalPage × PhysicalPage) :=
  let pages := (List.finRange 64).filter s.eligible
  pages.flatMap fun a => (pages.filter fun b => a < b).map fun b => (a, b)

/-- Whether a pair comes after another in the order of R151. -/
def pairAfter (x y : PhysicalPage × PhysicalPage) : Bool := x.1 < y.1 || (x.1 = y.1 && x.2 < y.2)

/-- Take a pair test, or end the check where no pair remains (R151). -/
def State.takePair (s : State) : Option (PhysicalPage × PhysicalPage) → State
  | some (a, b) => s.modCheck fun r => { r with current := .pair a b }
  | none => s.endCheck

/-- The DECODE step begins with the first pair. -/
def State.beginDecode (s : State) : State := s.takePair s.eligiblePairs.head?

/-- The next pair after the one just completed. -/
def State.nextPair (s : State) (done : PhysicalPage × PhysicalPage) : State :=
  s.takePair (s.eligiblePairs.find? (pairAfter done))

/-- DECODE if selected, otherwise the end of the check (R149, R150). -/
def State.afterPattern (s : State) : State := if s.check.steps.decode then s.beginDecode else s.endCheck

/-- The next page test in ascending order, over the pages still NOT_REACHED; after the last, the next step (R150). -/
def State.nextPageTest (s : State) : State :=
  match (List.finRange 64).find? fun g => s.check.results[g] = some .notReached with
  | some g => s.modCheck fun r => { r with current := .page g }
  | none => s.afterPattern

/-- PATTERN if selected, otherwise DECODE if selected, otherwise the end of the check (R149). -/
def State.afterReference (s : State) : State := if s.check.steps.pattern then s.nextPageTest else s.afterPattern

/-- Every word of the page or pair under test becomes 0 (R150, R151, R155). -/
def State.zeroUnderTest (s : State) : State :=
  match s.check.current with
  | .page g => { s with words := s.words.zeroPage g }
  | .pair a b => { s with words := (s.words.zeroPage a).zeroPage b }
  | .none => s
  | .reference => s

/-! ### START_CHECK -/

/-- A page is in use when a port that owns an active context maps it with READ or READ_WRITE (R145). -/
def State.pageInUse (s : State) (g : PhysicalPage) : Bool :=
  (List.finRange 4).any fun q => s.mapLocked q && s.mapsPage q g

/-- The checks of START_CHECK, in the order of R145. -/
def checkStart (p : PortId) (pages : PageSet) (s : State) : Option Status :=
  if 1 < s.level p then some .denied
  else if pages = 0 then some .param
  else if s.check.state = .running then some .busy
  else if (List.finRange 64).any (fun g => pages.getLsbD g.val && s.pageInUse g) then some .pageInUse
  else none

/-- The steps selected: REFERENCE always (R145). -/
def stepsOf (q : StepRequest) : StepSet := ⟨true, q.pattern, q.decode⟩

/-- The record that an acceptance writes (R146); with OFFLINE set every step is omitted and no test begins. -/
def acceptedRecord (p : PortId) (pages : PageSet) (q : StepRequest) (offline : Bool) : CheckRecord :=
  { state := .running, starter := some p, selected := pages, steps := stepsOf q, reference := none,
    omitted := if offline then stepsOf q else noSteps, current := if offline then .none else .reference,
    results := Vector.ofFn fun g : PhysicalPage => if pages.getLsbD g.val then some .notReached else none,
    aborted := false }

/-- The acceptance of a check: the record is replaced and the selected pages are marked HELD (R146). -/
def State.acceptCheck (s : State) (p : PortId) (pages : PageSet) (q : StepRequest) : State :=
  { s with
    check := acceptedRecord p pages q s.offline
    heldMarks := Vector.ofFn fun g => s.heldMark g || pages.getLsbD g.val }

/-- START_CHECK: accepted, and ended at the same event while OFFLINE is set (R146). -/
def takeStartCheck (p : PortId) (pages : PageSet) (q : StepRequest) (s : State) : State :=
  match checkStart p pages s with
  | some st => s.refuse p 0x60 st
  | none =>
    let accepted := s.acceptCheck p pages q
    (if s.offline then accepted.endCheck else accepted).answer p 0x60 .ok []

def execStartCheck (p : PortId) (pages : PageSet) (q : StepRequest) (s : State) : Outcome :=
  takenAt p (.startCheck p pages q) s (takeStartCheck p pages q)

/-! ### ABORT_CHECK -/

/-- The steps that had not begun at an abort (R152). -/
def CheckRecord.notBegun (r : CheckRecord) : StepSet :=
  match r.current with
  | .none => r.steps
  | .reference => ⟨false, r.steps.pattern, r.steps.decode⟩
  | .page _ => ⟨false, false, r.steps.decode⟩
  | .pair _ _ => noSteps

/-- The checks of ABORT_CHECK, in the order of R155. -/
def checkAbort (p : PortId) (s : State) : Option Status :=
  if 1 < s.level p then some .denied else if s.check.state ≠ .running then some .state else none

/-- The test in progress is abandoned, its pages zero-filled, and the check ends aborted (R155). -/
def State.abortCheck (s : State) : State :=
  ((s.zeroUnderTest).modCheck fun r => { r with omitted := r.notBegun, aborted := true }).endCheck

def takeAbortCheck (p : PortId) (s : State) : State :=
  match checkAbort p s with
  | some st => s.refuse p 0x61 st
  | none => s.abortCheck.answer p 0x61 .ok []

def execAbortCheck (p : PortId) (s : State) : Outcome := takenAt p (.abortCheck p) s (takeAbortCheck p)

/-! ### READ_CHECK -/

def takeReadCheck (p : PortId) (s : State) : State := s.answer p 0x62 .ok s.check.bytes

def execReadCheck (p : PortId) (s : State) : Outcome := takenAt p (.readCheck p) s (takeReadCheck p)

/-! ### Test completions -/

/-- A passed reference test: faulted pages become SKIPPED and the next step begins (R148, R149). -/
def State.referencePassed (s : State) : State :=
  (s.modCheck fun r =>
    { r with
      reference := some .pass
      results := Vector.ofFn fun g : PhysicalPage =>
        if r.selected.getLsbD g.val && s.carriesFault g then some .skipped else r.results[g] }).afterReference

/-- A failed reference test: OFFLINE is set, every port receives OFFLINE, PATTERN and DECODE are omitted where selected,
and the check ends (R148, R4). -/
def State.referenceFailed (s : State) : State :=
  ({ s with
      offline := true
      check := { s.check with
        reference := some .fail
        omitted := ⟨false, s.check.steps.pattern, s.check.steps.decode⟩ } }.raiseAt (fun _ => true)
    flagOffline).endCheck

/-- The completion of the reference test, where it is the test in progress of a RUNNING check (assumption log 2). -/
def State.completeReference (s : State) (outcome : TestOutcome) : State :=
  match s.check.state, s.check.current, outcome with
  | .running, .reference, .pass => s.referencePassed
  | .running, .reference, .fail => s.referenceFailed
  | _, _, _ => s

def execReferenceTestComplete (outcome : TestOutcome) (s : State) : Outcome :=
  whenOperating s fun s => s.completeReference outcome

/-- The judgement of a page test: zero-filled, PASS, or FAIL_PATTERN with PATTERN in its fault set (R150). -/
def State.judgePage (s : State) (g : PhysicalPage) : TestOutcome → State
  | .pass => { s with words := s.words.zeroPage g }.modCheck fun r => r.withResult g .pass
  | .fail =>
    ({ s with words := s.words.zeroPage g }.modFaults g fun f => { f with pattern := true }).modCheck fun r =>
      r.withResult g .failPattern

/-- The completion of a page test (R150). -/
def State.completePage (s : State) (outcome : TestOutcome) : State :=
  match s.check.state, s.check.current with
  | .running, .page g => (s.judgePage g outcome).nextPageTest
  | _, _ => s

def execPageTestComplete (outcome : TestOutcome) (s : State) : Outcome :=
  whenOperating s fun s => s.completePage outcome

/-- The judgement of a pair test: both pages zero-filled; on a fail both become FAIL_DECODE and gain DECODE (R151). -/
def State.judgePair (s : State) (a b : PhysicalPage) : TestOutcome → State
  | .pass => { s with words := (s.words.zeroPage a).zeroPage b }
  | .fail =>
    ((({ s with words := (s.words.zeroPage a).zeroPage b }.modFaults a fun f => { f with decode := true }).modFaults b
      fun f => { f with decode := true }).modCheck fun r => (r.withResult a .failDecode).withResult b .failDecode)

/-- The completion of a pair test (R151). -/
def State.completePair (s : State) (outcome : TestOutcome) : State :=
  match s.check.state, s.check.current with
  | .running, .pair a b => (s.judgePair a b outcome).nextPair (a, b)
  | _, _ => s

def execPairTestComplete (outcome : TestOutcome) (s : State) : Outcome :=
  whenOperating s fun s => s.completePair outcome

end Sys2Proof.Machine
end

