-- ==== Sys2Proof/Machine/PortCommands.lean ====
section
/-! DEFINITION. The port commands: ECHO (R170), SET_PORT (R171), PORT_RESET (R172 to R174) and DEVICE_RESTART (R175,
R176), with what the resets do to a port and to the blocks. -/

namespace Sys2Proof.Machine

/-! ### ECHO -/

/-- 1 to 250 data bytes are returned; 0 or more than 250 are refused PARAM (R170). -/
def takeEcho (p : PortId) (data : List Byte) (s : State) : State :=
  if data.length < 1 ∨ 250 < data.length then s.refuse p 0x01 .param else s.answer p 0x01 .ok data

def execEcho (p : PortId) (data : List Byte) (s : State) : Outcome := takenAt p (.echo p data) s (takeEcho p data)

/-! ### SET_PORT -/

/-- The receive timeout is set; port, level and timeout are returned (R171). -/
def takeSetPort (p : PortId) (timeout : Byte) (s : State) : State :=
  (s.modPort p fun pt => { pt with timeout := timeout }).answer p 0x02 .ok
    [indexByte p, indexByte (s.level p), timeout]

def execSetPort (p : PortId) (timeout : Byte) (s : State) : Outcome :=
  takenAt p (.setPort p timeout) s (takeSetPort p timeout)

/-! ### What a reset does to a port (R174, R176) -/

/-- A port reset by another port: its data run, kept frame, responses and frame in assembly are gone; while selected it
is DISCARDING until deselect, otherwise in WAIT_LENGTH (R174). -/
def Port.resetByOther (pt : Port) : Port :=
  { pt with
    timeout := Config.defaultTimeout, receive := if pt.selected then .discarding else .waitLength,
    receiveTimer := none, response := none, outgoing := none, run := none, kept := none }

/-- A port reset by its own command: WAIT_LENGTH with the select period closed; its outgoing response continues (R174,
R176; assumption log 13, 14). -/
def Port.resetBySelf (pt : Port) : Port :=
  { pt with
    timeout := Config.defaultTimeout, receive := .waitLength, period := if pt.selected then .closed else .open,
    receiveTimer := none, run := none, kept := none }

/-! ### PORT_RESET -/

/-- The checks of PORT_RESET, in the order of R172; the port to reset. -/
def checkPortReset (p : PortId) (target : Byte) (s : State) : Except Status PortId :=
  match indexOf 4 target with
  | none => .error .param
  | some q => if q = p ∨ s.level p = 0 then .ok q else .error .denied

/-- Step 5 of R173: a REFUSED line reporting to q enters LISTENING, its last refusal kept. -/
def Line.releasedFrom (n : Line) (q : PortId) : Line :=
  if n.state = .refused ∧ n.config.report = q then n.toListening else n

/-- Steps 1 to 7 of R173: q's active contexts leave the run structure together, q's contexts become FREE, and q's map,
events, REFUSED lines and port state are reset. `p` is the issuing port. -/
def State.resetPort (s : State) (p q : PortId) : State :=
  let freed := (s.withdraw (s.activeOwnedBy q)).freeSlots (s.ownedBy q)
  { freed with
    maps := update freed.maps q absentMap
    events := update freed.events q PortEvents.initial
    lines := Vector.ofFn fun l => (freed.line l).releasedFrom q
    ports := update freed.ports q
      (if q = p then (freed.port q).resetBySelf else (freed.port q).resetByOther) }

/-- The reset, the issuer's OK, and one service pass where the reset removed an active context (R173, R88). -/
def takePortReset (p : PortId) (target : Byte) (s : State) : State :=
  match checkPortReset p target s with
  | .error st => s.refuse p 0x03 st
  | .ok q => ((s.resetPort p q).answer p 0x03 .ok []).serviceIf (s.mapLocked q)

def execPortReset (p : PortId) (target : Byte) (s : State) : Outcome :=
  takenAt p (.portReset p target) s (takePortReset p target)

/-! ### DEVICE_RESTART -/

/-- Every block at its defaults, but the ports, the words, the fault sets, OFFLINE, the pins and the queue (R6, R5, R43,
R46, R70, R143, R158, R186). -/
def State.clearBlocks (s : State) : State :=
  { s with
    heldMarks := Vector.replicate 64 false, maps := Vector.replicate 4 absentMap,
    contexts := Vector.replicate 32 none, gates := Vector.replicate 64 none, chain := [], ready := [], heldSet := [],
    lines := Vector.replicate 8 Line.initial, timer := IntervalTimer.initial, check := CheckRecord.initial,
    events := Vector.replicate 4 PortEvents.initial }

/-- The page or pair that a RUNNING check is testing is zero-filled (R158). -/
def State.dropCheck (s : State) : State :=
  match s.check.state with
  | .running => s.zeroUnderTest
  | .idle => s
  | .ended => s

/-- The restart, all of it but the response (R175, R176). -/
def State.restart (s : State) (p : PortId) : State :=
  let cleared := s.dropCheck.clearBlocks
  { cleared with ports := Vector.ofFn fun q =>
      if q = p then (s.port q).resetBySelf else (s.port q).resetByOther }

def takeDeviceRestart (p : PortId) (s : State) : State :=
  if s.level p ≠ 0 then s.refuse p 0x04 .denied else (s.restart p).answer p 0x04 .ok []

def execDeviceRestart (p : PortId) (s : State) : Outcome := takenAt p (.deviceRestart p) s (takeDeviceRestart p)

end Sys2Proof.Machine
end

