-- ==== Sys2Proof/Machine/PowerEvents.lean ====
section
/-! DEFINITION. Power-on and the RESET line: POWER_ON, STARTUP_COMPLETE, RESET_ASSERT and RESET_RELEASE (R177, R160;
assumption log 5, 6, 13, 15). -/

namespace Sys2Proof.Machine

/-- Frames, kept frames, data runs and responses of a port are lost and its receive timer stops (R177). -/
def Port.loseAll (pt : Port) : Port :=
  { pt with
    receive := .waitLength, receiveTimer := none, response := none, outgoing := none, run := none, kept := none }

/-- The part stops operating: every port loses what it had in hand and every attention output is deasserted (R177). -/
def State.stop (s : State) (phase : Phase) : State :=
  { s with
    phase := phase
    ports := Vector.ofFn fun p => (s.port p).loseAll
    events := Vector.ofFn fun p => { s.eventsAt p with attention := false } }

/-- Every block takes its default values, the store is zeroed and the straps are sampled; selects, data outputs and
trigger pins stand as they are (R177, R160, R143). The part operates, or stands in the phase that another cause still
holds it in. -/
def State.start (s : State) (straps : Vector Level 4) (phase : Phase) : State :=
  { s.clearBlocks with
    phase := phase
    words := []
    faults := Vector.replicate 64 noFaults
    offline := false
    ports := Vector.ofFn fun p => Port.initial straps[p] (s.port p).selected (s.port p).dataOut }

/-- The phase once power is applied: start-up runs, with RESET asserted or not as before (R177). -/
def Phase.withStartup : Phase → Phase
  | .operating => .startingUp
  | .startingUp => .startingUp
  | .resetAsserted => .startingUpInReset
  | .startingUpInReset => .startingUpInReset

/-- The phase once RESET is asserted: start-up runs on where it runs (R177). -/
def Phase.withReset : Phase → Phase
  | .operating => .resetAsserted
  | .resetAsserted => .resetAsserted
  | .startingUp => .startingUpInReset
  | .startingUpInReset => .startingUpInReset

/-- Power is applied (R177). -/
def execPowerOn (s : State) : Outcome := .next (s.stop s.phase.withStartup)

/-- The end of power-on start-up: the part operates, unless RESET is still asserted (R177). -/
def execStartupComplete (straps : Vector Level 4) (s : State) : Outcome :=
  match s.phase with
  | .startingUp => .next (s.start straps .operating)
  | .startingUpInReset => .next (s.start straps .resetAsserted)
  | .resetAsserted => .next s
  | .operating => .next s

/-- The RESET line is asserted (R177). -/
def execResetAssert (s : State) : Outcome := .next (s.stop s.phase.withReset)

/-- The RESET line is released: the part operates, unless start-up is still running (R177). -/
def execResetRelease (straps : Vector Level 4) (s : State) : Outcome :=
  match s.phase with
  | .resetAsserted => .next (s.start straps .operating)
  | .startingUpInReset => .next (s.start straps .startingUp)
  | .startingUp => .next s
  | .operating => .next s

end Sys2Proof.Machine
end

