-- ==== Sys2Proof/Machine/TriggerEvents.lean ====
section
/-! DEFINITION. The events of the Trigger Unit: PIN_LEVEL_CHANGE (R124, R125, R127), DEBOUNCE_EXPIRY (R126),
VALIDATION_EXPIRY (R127), INTERVAL_TIMER_EXPIRY (R129, R141) and REMAINING_COUNT_FALLS (R141). -/

namespace Sys2Proof.Machine

/-- The active level of an edge (R124). -/
def activeLevel : Edge → PinLevel
  | .rising => .high
  | .falling => .low

/-- A line enters PENDING and a service pass is made at the same event (R125, R130). -/
def State.enterPending (s : State) (l : LineId) : State :=
  (s.modLine l fun n => { n with state := .pending, debounceTimer := none, validationTimer := none }).servicePass

/-- A line enters VALIDATING with its validation timer started (R125, R126). -/
def Line.startValidation (n : Line) : Line :=
  { n with state := .validating, debounceTimer := none, validationTimer := some n.config.validation.val }

/-- A line enters DEBOUNCING with its debounce timer started (R125). -/
def Line.startDebounce (n : Line) : Line :=
  { n with state := .debouncing, debounceTimer := some n.config.debounce.val }

/-- A qualifying edge on a line in LISTENING, by D and V (R125). -/
def State.qualifyingEdge (s : State) (l : LineId) : State :=
  if (s.line l).config.debounce ≠ 0 then s.modLine l Line.startDebounce
  else if (s.line l).config.validation ≠ 0 then s.modLine l Line.startValidation
  else s.enterPending l

/-- What a line of source PIN does at a change of its pin to a level, by its state (R125 to R128). -/
def State.pinChanged (s : State) (l : LineId) (level : PinLevel) : State :=
  match (s.line l).config.source, (s.line l).state with
  | .pin, .listening => if level = activeLevel (s.line l).config.edge then s.qualifyingEdge l else s
  | .pin, .validating => if level = activeLevel (s.line l).config.edge then s else s.modLine l Line.toListening
  | .pin, .disabled => s
  | .pin, .debouncing => s
  | .pin, .pending => s
  | .pin, .refused => s
  | .timer, _ => s

/-- The level of a pin as the board drives it. -/
def State.setPin (s : State) (l : LineId) (level : PinLevel) : State := { s with pins := update s.pins l level }

/-- A change of level on a line's pin. The pin is sampled in every phase; a line acts on the change only while the part
operates (R143, R177). A level that the pin already has is no change. -/
def execPinLevelChange (l : LineId) (level : PinLevel) (s : State) : Outcome :=
  if s.pins[l] = level then .next s
  else
    match s.phase with
    | .operating => .next ((s.setPin l level).pinChanged l level)
    | .startingUp => .next (s.setPin l level)
    | .resetAsserted => .next (s.setPin l level)
    | .startingUpInReset => .next (s.setPin l level)

/-- The expiry of the debounce timer of a line in DEBOUNCING: the pin's level is examined once (R126). -/
def State.debounceExpired (s : State) (l : LineId) : State :=
  match (s.line l).state with
  | .debouncing =>
    if s.pins[l] ≠ activeLevel (s.line l).config.edge then s.modLine l Line.toListening
    else if (s.line l).config.validation ≠ 0 then s.modLine l Line.startValidation
    else s.enterPending l
  | .disabled => s
  | .listening => s
  | .validating => s
  | .pending => s
  | .refused => s

def execDebounceExpiry (l : LineId) (s : State) : Outcome := whenOperating s fun s => s.debounceExpired l

/-- The expiry of the validation timer of a line in VALIDATING (R127). -/
def State.validationExpired (s : State) (l : LineId) : State :=
  match (s.line l).state with
  | .validating => s.enterPending l
  | .disabled => s
  | .listening => s
  | .debouncing => s
  | .pending => s
  | .refused => s

def execValidationExpiry (l : LineId) (s : State) : Outcome := whenOperating s fun s => s.validationExpired l

/-- Whether an expiry of the interval timer makes a line PENDING: an enabled TIMER line in LISTENING (R129). -/
def Line.takesExpiry (n : Line) : Bool := n.config.enable && n.config.source = .timer && n.state = .listening

/-- The expiry of the interval timer: the count is loaded again, the TIMER lines in LISTENING enter PENDING, and one
pass is made if there is one (R129, R130, R141). -/
def State.intervalExpired (s : State) : State :=
  { s with
    timer := { s.timer with remaining := s.timer.reload }
    lines := Vector.ofFn fun l =>
      if (s.line l).takesExpiry then { s.line l with state := .pending } else s.line l }.serviceIf
    ((List.finRange 8).any fun l => (s.line l).takesExpiry)

/-- The remaining count runs out: an expiry, while the timer is RUNNING (R141; assumption log 11). -/
def execIntervalTimerExpiry (s : State) : Outcome :=
  whenOperating s fun s => if s.timer.running then s.intervalExpired else s

/-- The remaining count falls by one while the timer is RUNNING; the fall that reaches 0 is the expiry (R141;
assumption log 11). -/
def State.countFalls (s : State) : State :=
  if !s.timer.running then s
  else if s.timer.remaining.toNat ≤ 1 then s.intervalExpired
  else { s with timer := { s.timer with remaining := s.timer.remaining - 1 } }

def execRemainingCountFalls (s : State) : Outcome := whenOperating s State.countFalls

end Sys2Proof.Machine
end

