-- ==== Sys2Proof/Machine/ContextCommands.lean ====
section
/-! DEFINITION. The context commands: DEFINE_CONTEXT (R32, R33), SET_PARAMS (R34, R35), READ_CONTEXT (R36),
CLEAR_CONTEXT (R37) and FREE_CONTEXT (R39). -/

namespace Sys2Proof.Machine

/-- The owner or a level-0 port (R34, R37, R39). -/
def State.ownerOrLevel0 (s : State) (p : PortId) (k : Context) : Bool := k.owner = p || s.level p = 0

/-! ### DEFINE_CONTEXT -/

/-- The record of a context just defined (R33). -/
def Context.defined (owner : PortId) (b : Block) : Context :=
  { state := .idle, owner := owner, block := b, startedBy := none, nested := false,
    continuation := b.initialContinuation, seen := noSats, cause := none }

/-- The checks of DEFINE_CONTEXT, in the order of R32. -/
def checkDefine (slot : Byte) (f : BlockFields) (s : State) : Except Status (ContextId × Block) :=
  match indexOf 32 slot with
  | none => .error .param
  | some c =>
    match s.ctx c with
    | some _ => .error .state
    | none =>
      match checkBlock f with
      | .error st => .error st
      | .ok b => .ok (c, b)

def takeDefineContext (p : PortId) (slot : Byte) (f : BlockFields) (s : State) : State :=
  match checkDefine slot f s with
  | .error st => s.refuse p 0x20 st
  | .ok (c, b) => (s.setCtx c (some (Context.defined p b))).answer p 0x20 .ok []

def execDefineContext (p : PortId) (slot : Byte) (f : BlockFields) (s : State) : Outcome :=
  takenAt p (.defineContext p slot f) s (takeDefineContext p slot f)

/-! ### SET_PARAMS -/

/-- The record after SET_PARAMS (R35): the block replaced, the continuation set for it, n = N where the context is
DONE. -/
def Context.withBlock (k : Context) (b : Block) : Context :=
  { k with block := b,
           continuation := { b.initialContinuation with next := if k.state = .done then b.count else 0 } }

/-- The slot index, its context and the authority to write it (checks 1 to 3 of R34, R37, R39). -/
def checkOwned (p : PortId) (slot : Byte) (s : State) : Except Status (ContextId × Context) :=
  match indexOf 32 slot with
  | none => .error .param
  | some c =>
    match s.ctx c with
    | none => .error .noContext
    | some k => if s.ownerOrLevel0 p k then .ok (c, k) else .error .denied

/-- The checks of SET_PARAMS, in the order of R34. -/
def checkSetParams (p : PortId) (slot : Byte) (f : BlockFields) (s : State) : Except Status (ContextId × Block) :=
  match checkOwned p slot s with
  | .error st => .error st
  | .ok (c, k) =>
    if k.state.isActive then .error .busy
    else
      match checkBlock f with
      | .error st => .error st
      | .ok b => .ok (c, b)

def takeSetParams (p : PortId) (slot : Byte) (f : BlockFields) (s : State) : State :=
  match checkSetParams p slot f s with
  | .error st => s.refuse p 0x20 st
  | .ok (c, b) => (s.modCtx c fun k => k.withBlock b).answer p 0x20 .ok []

def execSetParams (p : PortId) (slot : Byte) (f : BlockFields) (s : State) : Outcome :=
  takenAt p (.setParams p slot f) s (takeSetParams p slot f)

/-! ### READ_CONTEXT -/

def takeReadContext (p : PortId) (slot : Byte) (s : State) : State :=
  match indexOf 32 slot with
  | none => s.refuse p 0x21 .param
  | some c => s.answer p 0x21 .ok (s.contextRecord c)

def execReadContext (p : PortId) (slot : Byte) (s : State) : Outcome :=
  takenAt p (.readContext p slot) s (takeReadContext p slot)

/-! ### CLEAR_CONTEXT -/

/-- The record after CLEAR_CONTEXT (R37). -/
def Context.cleared (k : Context) : Context :=
  { k with state := .idle, continuation := k.block.initialContinuation, seen := noSats, cause := none }

/-- The checks of CLEAR_CONTEXT, in the order of R37. -/
def checkClearContext (p : PortId) (slot : Byte) (s : State) : Except Status ContextId :=
  match checkOwned p slot s with
  | .error st => .error st
  | .ok (c, k) =>
    if k.state.isActive then .error .busy
    else if k.state = .idle then .error .state
    else .ok c

/-- The context is cleared and the Trigger Unit makes a service pass at the same event (R37). -/
def takeClearContext (p : PortId) (slot : Byte) (s : State) : State :=
  match checkClearContext p slot s with
  | .error st => s.refuse p 0x22 st
  | .ok c => ((s.modCtx c Context.cleared).servicePass).answer p 0x22 .ok []

def execClearContext (p : PortId) (slot : Byte) (s : State) : Outcome :=
  takenAt p (.clearContext p slot) s (takeClearContext p slot)

/-! ### FREE_CONTEXT -/

/-- The checks of FREE_CONTEXT, in the order of R39. -/
def checkFreeContext (p : PortId) (slot : Byte) (s : State) : Except Status ContextId :=
  match checkOwned p slot s with
  | .error st => .error st
  | .ok (c, k) => if k.state.isActive then .error .busy else .ok c

def takeFreeContext (p : PortId) (slot : Byte) (s : State) : State :=
  match checkFreeContext p slot s with
  | .error st => s.refuse p 0x23 st
  | .ok c => (s.freeSlots (· = c)).answer p 0x23 .ok []

def execFreeContext (p : PortId) (slot : Byte) (s : State) : Outcome :=
  takenAt p (.freeContext p slot) s (takeFreeContext p slot)

end Sys2Proof.Machine
end

