-- ==== Sys2Proof/Machine/EventCommands.lean ====
section
/-! DEFINITION. The commands of the Event Unit: READ_EVENTS (R182), CLEAR_EVENTS (R184), SET_ATTENTION (R183) and
READ_COMPLETIONS (R185). -/

namespace Sys2Proof.Machine

def takeReadEvents (p : PortId) (s : State) : State := s.answer p 0x70 .ok (s.eventsAt p).eventBytes

def execReadEvents (p : PortId) (s : State) : Outcome := takenAt p (.readEvents p) s (takeReadEvents p)

/-- The flags named are cleared; the response carries the flags left (R184). -/
def takeClearEvents (p : PortId) (flags : Byte) (s : State) : State :=
  match flagsOfByte flags with
  | none => s.refuse p 0x71 .param
  | some f =>
    let cleared := s.modEvents p fun e => e.clear f
    cleared.answer p 0x71 .ok [flagByte (cleared.eventsAt p).flags]

def execClearEvents (p : PortId) (flags : Byte) (s : State) : Outcome :=
  takenAt p (.clearEvents p flags) s (takeClearEvents p flags)

/-- The mask is replaced; the response carries the flags (R183). -/
def takeSetAttention (p : PortId) (mask : Byte) (s : State) : State :=
  match flagsOfByte mask with
  | none => s.refuse p 0x72 .param
  | some m => (s.modEvents p fun e => e.setMask m).answer p 0x72 .ok [flagByte (s.eventsAt p).flags]

def execSetAttention (p : PortId) (mask : Byte) (s : State) : Outcome :=
  takenAt p (.setAttention p mask) s (takeSetAttention p mask)

/-- The completion set emptied and COMPLETION cleared (R185). -/
def PortEvents.emptied (e : PortEvents) : PortEvents :=
  { e with completions := Vector.replicate 32 none }.clear flagCompletion

/-- The entries are returned, the set is emptied and COMPLETION cleared, FAULT left as it stands (R185). -/
def takeReadCompletions (p : PortId) (s : State) : State :=
  (s.modEvents p PortEvents.emptied).answer p 0x73 .ok (s.eventsAt p).completionBytes

def execReadCompletions (p : PortId) (s : State) : Outcome :=
  takenAt p (.readCompletions p) s (takeReadCompletions p)

end Sys2Proof.Machine
end

