-- ==== Sys2Proof/Machine/GateCommands.lean ====
section
/-! DEFINITION. The gate commands: WRITE_GATE (R48, R49), READ_GATE (R51) and INVOKE (R52, R53, R60). -/

namespace Sys2Proof.Machine

/-! ### WRITE_GATE -/

def parseGateKind (b : Byte) : Option GateKind :=
  match b.toNat with
  | 0 => some .nest
  | 1 => some .queue
  | _ => none

/-- Check 3 of R48: the four fields of a present gate. -/
def parseGate (f : GateFields) : Option Gate :=
  match parseGateKind f.kind, indexOf 32 f.context, indexOf 4 f.level with
  | some kind, some c, some level => some ⟨kind, c, level, f.linePermitted⟩
  | _, _, _ => none

/-- The checks of WRITE_GATE, in the order of R48; the gate index and its new record. -/
def checkWriteGate (p : PortId) (gate : Byte) (present : Bool) (f : GateFields) (s : State) :
    Except Status (GateId × Option Gate) :=
  if s.level p ≠ 0 then .error .denied
  else
    match indexOf 64 gate with
    | none => .error .param
    | some g =>
      if present then
        match parseGate f with
        | none => .error .param
        | some record => .ok (g, some record)
      else .ok (g, none)

/-- The gate record is written and the Trigger Unit makes a service pass at the same event (R49). -/
def takeWriteGate (p : PortId) (gate : Byte) (present : Bool) (f : GateFields) (s : State) : State :=
  match checkWriteGate p gate present f s with
  | .error st => s.refuse p 0x30 st
  | .ok (g, record) => ({ s with gates := update s.gates g record }.servicePass).answer p 0x30 .ok []

def execWriteGate (p : PortId) (gate : Byte) (present : Bool) (f : GateFields) (s : State) : Outcome :=
  takenAt p (.writeGate p gate present f) s (takeWriteGate p gate present f)

/-! ### READ_GATE -/

/-- Refused PARAM for a count of 0 or above 16, or a last index above 63 (R51). -/
def takeReadGate (p : PortId) (first count : Byte) (s : State) : State :=
  if count.toNat < 1 ∨ 16 < count.toNat ∨ 63 < first.toNat + count.toNat - 1 then s.refuse p 0x31 .param
  else s.answer p 0x31 .ok (((s.gates.toList.drop first.toNat).take count.toNat).flatMap gateBytes)

def execReadGate (p : PortId) (first count : Byte) (s : State) : Outcome :=
  takenAt p (.readGate p first count) s (takeReadGate p first count)

/-! ### INVOKE -/

/-- The gate that an index names: none for an index above 63 or an absent gate (R52, R53 check 1). -/
def State.gateNamed (s : State) (gate : Byte) : Option Gate :=
  match indexOf 64 gate with
  | none => none
  | some g => s.gate g

/-- The check sequence with the issuing port as invoker; acceptance answers the context and the state given (R52). -/
def takeInvoke (p : PortId) (gate : Byte) (s : State) : State :=
  match s.checkInvocation (s.gateNamed gate) (.port p) with
  | .error st => s.refuse p 0x32 st
  | .ok g =>
    (s.accept g.context g.kind (.port p)).answer p 0x32 .ok
      [indexByte g.context, contextStateByte (s.placedState g.kind)]

def execInvoke (p : PortId) (gate : Byte) (s : State) : Outcome :=
  takenAt p (.invoke p gate) s (takeInvoke p gate)

end Sys2Proof.Machine
end

