-- ==== Sys2Proof/Machine/LineCommands.lean ====
section
/-! DEFINITION. The line and timer commands: CONFIG_LINE (R137, R138), CLEAR_LINE (R139), READ_LINES (R140) and
SET_TIMER (R142). -/

namespace Sys2Proof.Machine

/-! ### CONFIG_LINE -/

def parseSource (b : Byte) : Option LineSource :=
  match b.toNat with
  | 0 => some .pin
  | 1 => some .timer
  | _ => none

def parseEdge (b : Byte) : Option Edge :=
  match b.toNat with
  | 0 => some .rising
  | 1 => some .falling
  | _ => none

/-- Check 3 of R137. -/
def parseLineConfig (f : LineFields) : Option LineConfig := do
  return { enable := f.enable, source := ← parseSource f.source, edge := ← parseEdge f.edge,
           debounce := ← indexOf 64 f.debounce, validation := ← indexOf 64 f.validation,
           priority := ← indexOf 8 f.priority, gate := ← indexOf 64 f.gate, report := ← indexOf 4 f.report }

/-- The line's record after CONFIG_LINE: a new configuration, no working state (R138, R123). -/
def Line.configured (cfg : LineConfig) : Line :=
  { config := cfg, state := if cfg.enable then .listening else .disabled, debounceTimer := none,
    validationTimer := none, lastRefusal := none, lastStarted := none }

/-- The checks of CONFIG_LINE, in the order of R137. -/
def checkConfigLine (p : PortId) (line : Byte) (f : LineFields) (s : State) : Except Status (LineId × LineConfig) :=
  if 1 < s.level p then .error .denied
  else
    match indexOf 8 line, parseLineConfig f with
    | some l, some cfg => .ok (l, cfg)
    | _, _ => .error .param

def takeConfigLine (p : PortId) (line : Byte) (f : LineFields) (s : State) : State :=
  match checkConfigLine p line f s with
  | .error st => s.refuse p 0x50 st
  | .ok (l, cfg) => (s.modLine l fun _ => Line.configured cfg).answer p 0x50 .ok []

def execConfigLine (p : PortId) (line : Byte) (f : LineFields) (s : State) : Outcome :=
  takenAt p (.configLine p line f) s (takeConfigLine p line f)

/-! ### CLEAR_LINE -/

/-- The checks of CLEAR_LINE, in the order of R139. -/
def checkClearLine (p : PortId) (line : Byte) (s : State) : Except Status LineId :=
  match indexOf 8 line with
  | none => .error .param
  | some l =>
    if 1 < s.level p ∧ (s.line l).config.report ≠ p then .error .denied
    else if (s.line l).state ≠ .refused then .error .state
    else .ok l

/-- The line enters LISTENING and keeps its last refusal (R139). -/
def takeClearLine (p : PortId) (line : Byte) (s : State) : State :=
  match checkClearLine p line s with
  | .error st => s.refuse p 0x51 st
  | .ok l => (s.modLine l Line.toListening).answer p 0x51 .ok []

def execClearLine (p : PortId) (line : Byte) (s : State) : Outcome :=
  takenAt p (.clearLine p line) s (takeClearLine p line)

/-! ### READ_LINES -/

def takeReadLines (p : PortId) (s : State) : State := s.answer p 0x52 .ok s.linesBytes

def execReadLines (p : PortId) (s : State) : Outcome := takenAt p (.readLines p) s (takeReadLines p)

/-! ### SET_TIMER -/

/-- The interval timer after SET_TIMER (R142). -/
def IntervalTimer.set (t : IntervalTimer) (reload : BitVec 16) (run : Bool) : IntervalTimer :=
  { running := run, reload := reload, remaining := if run then reload else t.remaining }

/-- The checks of SET_TIMER, in the order of R142. -/
def checkSetTimer (p : PortId) (reload : BitVec 16) (s : State) : Option Status :=
  if 1 < s.level p then some .denied else if reload = 0 then some .param else none

def takeSetTimer (p : PortId) (reload : BitVec 16) (run : Bool) (s : State) : State :=
  match checkSetTimer p reload s with
  | some st => s.refuse p 0x53 st
  | none => { s with timer := s.timer.set reload run }.answer p 0x53 .ok []

def execSetTimer (p : PortId) (reload : BitVec 16) (run : Bool) (s : State) : Outcome :=
  takenAt p (.setTimer p reload run) s (takeSetTimer p reload run)

end Sys2Proof.Machine
end

