-- ==== Sys2Proof/Machine/RunCommands.lean ====
section
/-! DEFINITION. The run commands: HOLD (R78), RESUME (R80), ABORT (R81 to R84) and READ_RUN (R89). -/

namespace Sys2Proof.Machine

/-- Check 3 of R77: the owner, the port that started_by names, or a level-0 port. -/
def State.mayControl (s : State) (p : PortId) (k : Context) : Bool :=
  k.owner = p || k.startedBy = some (.port p) || s.level p = 0

/-- The checks of R77, in order. -/
def checkControl (p : PortId) (slot : Byte) (s : State) : Except Status (ContextId × Context) :=
  match indexOf 32 slot with
  | none => .error .param
  | some c =>
    match s.ctx c with
    | none => .error .noContext
    | some k => if s.mayControl p k then .ok (c, k) else .error .denied

/-! ### HOLD -/

/-- A context enters the held set: HELD, nested no, its continuation kept; where it was the head, the successor is
chosen, and a chain that shrinks gives a service opportunity (R71, R75, R78). -/
def State.holdContext (s : State) (c : ContextId) : State :=
  let left := (s.modCtx c fun k => { k with state := .held, nested := false }).withdraw (· = c)
  { left with heldSet := insertAscending c left.heldSet }.serviceIf (left.chain.length < s.chain.length)

/-- The outcome of HOLD by the state of the context (R78); CHAINED for a member of the chain with a context below or
above it (R79). -/
def takeHold (p : PortId) (slot : Byte) (s : State) : State :=
  match checkControl p slot s with
  | .error st => s.refuse p 0x40 st
  | .ok (c, k) =>
    match k.state with
    | .ready => (s.holdContext c).answer p 0x40 .ok []
    | .running =>
      match s.backLink c with
      | none => (s.holdContext c).answer p 0x40 .ok []
      | some _ => s.refuse p 0x40 .chained
    | .preempted => s.refuse p 0x40 .chained
    | .held | .idle | .done | .faulted => s.refuse p 0x40 .state

def execHold (p : PortId) (slot : Byte) (s : State) : Outcome :=
  takenAt p (.hold p slot) s (takeHold p slot)

/-! ### RESUME -/

/-- A HELD context leaves the held set: RUNNING if nothing runs, else READY as a new entry of the ready list (R80). -/
def State.resumeContext (s : State) (c : ContextId) : State :=
  let out := { s with heldSet := s.heldSet.filter fun d => d ≠ c }
  match s.chain with
  | [] => { out.modCtx c (fun k => k.withState .running) with chain := [c] }
  | _ :: _ =>
    { out.modCtx c (fun k => k.withState .ready) with ready := insertByPriority s.priorityOf c s.ready }

/-- The state that RESUME gives. -/
def State.resumedState (s : State) : ContextState :=
  match s.chain with
  | [] => .running
  | _ :: _ => .ready

def takeResume (p : PortId) (slot : Byte) (s : State) : State :=
  match checkControl p slot s with
  | .error st => s.refuse p 0x41 st
  | .ok (c, k) =>
    if k.state = .held then (s.resumeContext c).answer p 0x41 .ok [contextStateByte s.resumedState]
    else s.refuse p 0x41 .state

def execResume (p : PortId) (slot : Byte) (s : State) : Outcome :=
  takenAt p (.resume p slot) s (takeResume p slot)

/-! ### ABORT -/

/-- An active context becomes FAULTED with ABORTED and leaves its collection (R81); any other state answers STATE. -/
def takeAbort (p : PortId) (slot : Byte) (s : State) : State :=
  match checkControl p slot s with
  | .error st => s.refuse p 0x42 st
  | .ok (c, k) =>
    if k.state.isActive then (s.faultContext c .aborted).answer p 0x42 .ok [] else s.refuse p 0x42 .state

def execAbort (p : PortId) (slot : Byte) (s : State) : Outcome :=
  takenAt p (.abort p slot) s (takeAbort p slot)

/-! ### READ_RUN -/

def takeReadRun (p : PortId) (s : State) : State := s.answer p 0x43 .ok s.runBytes

def execReadRun (p : PortId) (s : State) : Outcome := takenAt p (.readRun p) s (takeReadRun p)

end Sys2Proof.Machine
end

