-- ==== Sys2Proof/Machine/StoreCommands.lean ====
section
/-! DEFINITION. The store and map commands: WRITE_MAP (R8), READ_MAP (R10), TRANSLATE (R11), READ_WORDS and WRITE_WORDS
(R12), READ_PAGE_FAULTS (R20), CLEAR_FAULTS (R21). For each command, `take…` is the taking of the command (R166) and
`exec…` the row's meaning. -/

namespace Sys2Proof.Machine

/-! ### WRITE_MAP (R8, R9) -/

/-- One entry of the list, when its three fields are valid. -/
def parseMapFields (f : MapFields) : Option (LogicalPage × MapEntry) :=
  match indexOf 16 f.logical, indexOf 64 f.physical, parseAccess f.access with
  | some l, some g, some a => some (l, ⟨g, a⟩)
  | _, _, _ => none

/-- Check 1 of R8: 1 to 16 entries, each valid, no logical page named twice. -/
def parseMapList (fs : List MapFields) : Option (List (LogicalPage × MapEntry)) :=
  match fs.mapM parseMapFields with
  | none => none
  | some es => if 1 ≤ es.length ∧ es.length ≤ 16 ∧ (es.map Prod.fst).Nodup then some es else none

/-- The checks of WRITE_MAP, in the order of R8. -/
def checkWriteMap (p : PortId) (fs : List MapFields) (s : State) : Except Status (List (LogicalPage × MapEntry)) :=
  match parseMapList fs with
  | none => .error .param
  | some es =>
    if s.mapLocked p then .error .mapLocked
    else if es.any (fun e => e.2.access ≠ .absent && s.carriesFault e.2.page) then .error .pageFault
    else .ok es

/-- A map with the listed entries written. -/
def writeEntries (m : WindowMap) (es : List (LogicalPage × MapEntry)) : WindowMap :=
  es.foldl (fun m e => update m e.1 e.2) m

def takeWriteMap (p : PortId) (fs : List MapFields) (s : State) : State :=
  match checkWriteMap p fs s with
  | .error st => s.refuse p 0x10 st
  | .ok es => { s with maps := update s.maps p (writeEntries s.maps[p] es) }.answer p 0x10 .ok []

def execWriteMap (p : PortId) (fs : List MapFields) (s : State) : Outcome :=
  takenAt p (.writeMap p fs) s (takeWriteMap p fs)

/-! ### READ_MAP (R10) -/

def takeReadMap (p : PortId) (target : Byte) (s : State) : State :=
  match indexOf 4 target with
  | none => s.refuse p 0x11 .param
  | some q => s.answer p 0x11 .ok ((s.maps[q]).toList.flatMap MapEntry.bytes)

def execReadMap (p : PortId) (target : Byte) (s : State) : Outcome :=
  takenAt p (.readMap p target) s (takeReadMap p target)

/-! ### TRANSLATE (R11) -/

def takeTranslate (p : PortId) (page : Byte) (s : State) : State :=
  match indexOf 16 page with
  | none => s.refuse p 0x12 .param
  | some l => s.answer p 0x12 .ok ((s.entry p l).bytes ++ [s.pageStateByte (s.entry p l).page])

def execTranslate (p : PortId) (page : Byte) (s : State) : Outcome :=
  takenAt p (.translate p page) s (takeTranslate p page)

/-! ### READ_WORDS and WRITE_WORDS (R12) -/

/-- Check 2 of R12: page, offset and last address of the run; the run's first address where it passes. -/
def runStart (page offset count : Byte) : Option LogicalAddress :=
  if page.toNat ≤ 15 ∧ page.toNat * 256 + offset.toNat + count.toNat - 1 ≤ 4095 then
    some (BitVec.ofNat 12 (page.toNat * 256 + offset.toNat))
  else none

/-- The logical addresses of a run (R13). -/
def runAddresses (first : LogicalAddress) (count : Nat) : List LogicalAddress :=
  (List.range count).map fun j => first + BitVec.ofNat 12 j

/-- The physical pages that a run reaches. -/
def State.runPages (s : State) (p : PortId) (first : LogicalAddress) (count : Nat) : List PhysicalPage :=
  (runAddresses first count).map fun a => (s.entryFor p a).page

/-- Checks 2 to 6 of R12, in order; the first address of the run where all pass. -/
def checkRun (p : PortId) (writes : Bool) (page offset count : Byte) (s : State) : Except Status LogicalAddress :=
  match runStart page offset count with
  | none => .error .range
  | some first =>
    if s.offline then .error .offline
    else if (runAddresses first count.toNat).any (fun a =>
        !(if writes then (s.entryFor p a).access.permitsWrite else (s.entryFor p a).access.permitsRead)) then
      .error .mapAccess
    else if (s.runPages p first count.toNat).any s.carriesFault then .error .pageFault
    else if (s.runPages p first count.toNat).any s.heldMark then .error .pageHeld
    else .ok first

/-- READ_WORDS passes its checks and starts its data run, or is refused (R12, R14). -/
def takeReadWords (p : PortId) (page offset count : Byte) (s : State) : State :=
  if count.toNat < 1 ∨ 62 < count.toNat then s.refuse p 0x13 .param
  else
    match checkRun p false page offset count s with
    | .error st => s.refuse p 0x13 st
    | .ok first => s.modPort p fun pt => { pt with run := some (.read first count.toNat []) }

def execReadWords (p : PortId) (page offset count : Byte) (s : State) : Outcome :=
  takenAt p (.readWords p page offset count) s (takeReadWords p page offset count)

/-- WRITE_WORDS; its count must equal the number of words carried (R187). -/
def takeWriteWords (p : PortId) (page offset count : Byte) (words : List Word) (s : State) : State :=
  if count.toNat < 1 ∨ 62 < count.toNat ∨ words.length ≠ count.toNat then s.refuse p 0x14 .param
  else
    match checkRun p true page offset count s with
    | .error st => s.refuse p 0x14 st
    | .ok first => s.modPort p fun pt => { pt with run := some (.write first words 0) }

def execWriteWords (p : PortId) (page offset count : Byte) (words : List Word) (s : State) : Outcome :=
  takenAt p (.writeWords p page offset count words) s (takeWriteWords p page offset count words)

/-! ### READ_PAGE_FAULTS (R20) and CLEAR_FAULTS (R21) -/

def takeReadPageFaults (p : PortId) (s : State) : State :=
  s.answer p 0x15 .ok ((List.finRange 64).map s.pageStateByte ++ [boolByte s.offline])

def execReadPageFaults (p : PortId) (s : State) : Outcome :=
  takenAt p (.readPageFaults p) s (takeReadPageFaults p)

/-- The checks of CLEAR_FAULTS, in the order of R21. -/
def checkClearFaults (p : PortId) (pages : PageSet) (kinds : FaultSet) (clearOffline : Bool) (s : State) :
    Option Status :=
  if s.level p ≠ 0 then some .denied
  else if !((pages != 0 && faulty kinds) || clearOffline) then some .param
  else if s.check.state = .running then some .busy
  else none

/-- The kinds leave the fault sets of the pages, and OFFLINE is cleared on request (R21). -/
def State.clearFaults (s : State) (pages : PageSet) (kinds : FaultSet) (clearOffline : Bool) : State :=
  { s with
    faults := Vector.ofFn fun g => if pages.getLsbD g.val then removeKinds (s.faultsOf g) kinds else s.faultsOf g
    offline := s.offline && !clearOffline }

def takeClearFaults (p : PortId) (pages : PageSet) (kinds : FaultSet) (clearOffline : Bool) (s : State) : State :=
  match checkClearFaults p pages kinds clearOffline s with
  | some st => s.refuse p 0x16 st
  | none => (s.clearFaults pages kinds clearOffline).answer p 0x16 .ok []

def execClearFaults (p : PortId) (pages : PageSet) (kinds : FaultSet) (clearOffline : Bool) (s : State) : Outcome :=
  takenAt p (.clearFaults p pages kinds clearOffline) s (takeClearFaults p pages kinds clearOffline)

end Sys2Proof.Machine
end

