-- ==== Sys2Proof/Machine/WireEvents.lean ====
section
/-! DEFINITION. The events at a port's wires: SELECT, DESELECT, BYTE_EXCHANGE and RECEIVE_TIMER_EXPIRY (R163 to R168),
with the taking of a complete frame (R166), and the word accesses of a data run, DATA_RUN_WORD_ACCESS (R13 to R18). -/

namespace Sys2Proof.Machine

/-! ### Taking a frame (R166) -/

/-- A command is handed to its owning block and taken (R166). The rows that are events are no commands of a frame. -/
def runCommand (i : Instr) (s : State) : State :=
  match i with
  | .echo p data => takeEcho p data s
  | .setPort p timeout => takeSetPort p timeout s
  | .portReset p target => takePortReset p target s
  | .deviceRestart p => takeDeviceRestart p s
  | .writeMap p entries => takeWriteMap p entries s
  | .readMap p target => takeReadMap p target s
  | .translate p page => takeTranslate p page s
  | .readWords p page offset count => takeReadWords p page offset count s
  | .writeWords p page offset count words => takeWriteWords p page offset count words s
  | .readPageFaults p => takeReadPageFaults p s
  | .clearFaults p pages kinds clearOffline => takeClearFaults p pages kinds clearOffline s
  | .defineContext p slot block => takeDefineContext p slot block s
  | .setParams p slot block => takeSetParams p slot block s
  | .readContext p slot => takeReadContext p slot s
  | .clearContext p slot => takeClearContext p slot s
  | .freeContext p slot => takeFreeContext p slot s
  | .writeGate p gate present fields => takeWriteGate p gate present fields s
  | .readGate p first count => takeReadGate p first count s
  | .invoke p gate => takeInvoke p gate s
  | .hold p slot => takeHold p slot s
  | .resume p slot => takeResume p slot s
  | .abort p slot => takeAbort p slot s
  | .readRun p => takeReadRun p s
  | .configLine p line fields => takeConfigLine p line fields s
  | .clearLine p line => takeClearLine p line s
  | .readLines p => takeReadLines p s
  | .setTimer p reload run => takeSetTimer p reload run s
  | .startCheck p pages request => takeStartCheck p pages request s
  | .abortCheck p => takeAbortCheck p s
  | .readCheck p => takeReadCheck p s
  | .readEvents p => takeReadEvents p s
  | .clearEvents p flags => takeClearEvents p flags s
  | .setAttention p mask => takeSetAttention p mask s
  | .readCompletions p => takeReadCompletions p s
  | .select .. | .deselect .. | .byteExchange .. | .receiveTimerExpiry .. | .dataRunWordAccess .. | .elementStep ..
  | .pinLevelChange .. | .debounceExpiry .. | .validationExpiry .. | .intervalTimerExpiry | .referenceTestComplete ..
  | .pageTestComplete .. | .pairTestComplete .. | .powerOn | .startupComplete .. | .resetAssert | .resetRelease ..
  | .remainingCountFalls => s

/-- A frame is taken: a frame that fails a test of R166 is answered with that test's status and its code byte. -/
def takeFrame (p : PortId) (frame : List Byte) (s : State) : State :=
  match decodeFrame p frame with
  | .ok i => runCommand i s
  | .error st => s.refuse p (frame.getD 1 0x00#8) st

/-- A complete frame is taken, or kept while the port's data run is in progress (R14, R166). -/
def frameCompleted (p : PortId) (frame : List Byte) (s : State) : State :=
  match (s.port p).run with
  | none => takeFrame p frame s
  | some _ => s.modPort p fun pt => pt.keep frame

/-! ### Select and deselect -/

/-- The select period opens and the pending response becomes the outgoing response (R163, R168). -/
def Port.onSelect (pt : Port) : Port :=
  if pt.selected then pt
  else { pt with selected := true, period := .open, outgoing := pt.response.map fun r => ⟨r, 0, true⟩ }

/-- The select period ends: a frame in assembly is discarded, the port returns to WAIT_LENGTH, the outgoing response
becomes absent (R164, R165, R168). -/
def Port.onDeselect (pt : Port) : Port :=
  if pt.selected then
    { pt with selected := false, period := .open, receive := .waitLength, receiveTimer := none, outgoing := none }
  else pt

/-- Select in any phase (R177; assumption log 3): no response is pending while the part does not operate. -/
def execSelect (p : PortId) (s : State) : Outcome := .next (s.modPort p Port.onSelect)

/-- Deselect in any phase (R177; assumption log 3). -/
def execDeselect (p : PortId) (s : State) : Outcome := .next (s.modPort p Port.onDeselect)

/-! ### Byte exchange -/

/-- The byte of the outgoing response that comes next: 00H with none, and after its last (R168). -/
def Port.nextOut (pt : Port) : Byte :=
  match pt.outgoing with
  | none => 0x00
  | some o => o.response.frame.getD o.sent 0x00#8

/-- One byte is shifted out; the one that shifts out the last byte consumes the response, if it is still the pending one
(R168). -/
def Port.shiftOut (pt : Port) : Port :=
  match pt.outgoing with
  | none => { pt with dataOut := pt.nextOut }
  | some o =>
    if o.sent + 1 = o.response.frame.length ∧ o.stillPending then
      { pt with dataOut := pt.nextOut, response := none, outgoing := some ⟨o.response, o.sent + 1, false⟩ }
    else { pt with dataOut := pt.nextOut, outgoing := some { o with sent := o.sent + 1 } }

/-- The receive timer as it starts: not at all with a timeout of 0 (R163, R164). -/
def timerFor (timeout : Byte) : Option Nat := if timeout = 0 then none else some timeout.toNat

/-- A byte in WAIT_LENGTH with the select period open (R163, R165). -/
def State.takeLength (s : State) (p : PortId) (b : Byte) : State :=
  if b = 0x00#8 then s
  else if b = 0x01#8 ∨ b = 0x02#8 then (s.modPort p fun pt => { pt with receive := .discarding }).refuse p 0x00 .length
  else
    s.modPort p fun pt => { pt with receive := .receiving b.toNat [b], receiveTimer := timerFor pt.timeout }

/-- A complete frame leaves the assembly: WAIT_LENGTH, the timer stopped, the select period closed (R164). -/
def Port.frameDone (pt : Port) : Port :=
  { pt with receive := .waitLength, receiveTimer := none, period := .closed }

/-- A byte in RECEIVING is added to the frame; the L-th completes it (R164). -/
def State.addByte (s : State) (p : PortId) (length : Nat) (frame : List Byte) : State :=
  if frame.length = length then frameCompleted p frame (s.modPort p Port.frameDone)
  else s.modPort p fun pt => { pt with receive := .receiving length frame }

/-- One byte is taken in, by the receive state (R163 to R165). -/
def State.takeIn (s : State) (p : PortId) (b : Byte) : State :=
  match (s.port p).receive, (s.port p).period with
  | .waitLength, .open => s.takeLength p b
  | .waitLength, .closed => s
  | .receiving length bytes, _ => s.addByte p length (bytes ++ [b])
  | .discarding, _ => s

/-- A byte exchange at a selected port: the outgoing byte first, then the byte received; while the part does not operate
00H is shifted out and no byte is taken (R163, R177). A port that is not selected exchanges no byte (R159). -/
def execByteExchange (p : PortId) (b : Byte) (s : State) : Outcome :=
  if (s.port p).selected then
    match s.phase with
    | .operating => .next ((s.modPort p Port.shiftOut).takeIn p b)
    | .startingUp => .next (s.modPort p fun pt => { pt with dataOut := 0x00 })
    | .resetAsserted => .next (s.modPort p fun pt => { pt with dataOut := 0x00 })
    | .startingUpInReset => .next (s.modPort p fun pt => { pt with dataOut := 0x00 })
  else .next s

/-! ### Receive timer expiry -/

/-- The frame in assembly is discarded and the port is DISCARDING until deselect (R164); a timer that does not run does
not expire (assumption log 2). -/
def Port.onTimeout (pt : Port) : Port :=
  match pt.receive, pt.receiveTimer with
  | .receiving _ _, some _ => { pt with receive := .discarding, receiveTimer := none }
  | .receiving _ _, none => pt
  | .waitLength, _ => pt
  | .discarding, _ => pt

def execReceiveTimerExpiry (p : PortId) (s : State) : Outcome :=
  whenOperating s fun s => s.modPort p Port.onTimeout

/-! ### The word accesses of a data run -/

/-- The kept frame, if there is one, is taken at the end of the run (R14). -/
def State.takeKept (s : State) (p : PortId) : State :=
  match (s.port p).kept with
  | none => s
  | some frame => takeFrame p frame (s.modPort p fun pt => { pt with kept := none })

/-- The run ends: its response becomes the pending response, then the kept frame is taken (R14). -/
def State.endRun (s : State) (p : PortId) (code : Byte) (status : Status) (results : List Byte) : State :=
  ((s.modPort p fun pt => { pt with run := none }).answer p code status results).takeKept p

/-- The run goes on with its next word. -/
def State.continueRun (s : State) (p : PortId) (run : DataRun) : State :=
  s.modPort p fun pt => { pt with run := some run }

/-- A logical word address in two bytes (11.3). -/
def addressBytes (a : LogicalAddress) : List Byte := bytes16 (BitVec.ofNat 16 a.toNat)

/-- The next read of a READ_WORDS run (R13, R17, R18). -/
def State.accessRead (s : State) (p : PortId) (fails : Bool) (a : LogicalAddress) (left : Nat) (got : List Word) :
    State :=
  match s.pageRefusal (s.entryFor p a).page with
  | some st => s.endRun p 0x13 st []
  | none =>
    if fails then (s.wordCheckFailure (s.entryFor p a).page).endRun p 0x13 .wordFault (addressBytes a)
    else
      let words := got ++ [s.words.read (s.physical p a)]
      if left ≤ 1 then s.endRun p 0x13 .ok (words.flatMap bytes32)
      else s.continueRun p (.read (a + 1) (left - 1) words)

/-- The next write of a WRITE_WORDS run (R13); a write carries no word check. -/
def State.accessWrite (s : State) (p : PortId) (a : LogicalAddress) (rest : List Word) (written : Nat) : State :=
  match rest with
  | [] => s.endRun p 0x14 .ok [byteOfNat written]
  | w :: later =>
    match s.pageRefusal (s.entryFor p a).page with
    | some st => s.endRun p 0x14 st [byteOfNat written]
    | none =>
      let stored := { s with words := s.words.write (s.physical p a) w }
      if later = [] then stored.endRun p 0x14 .ok [byteOfNat (written + 1)]
      else stored.continueRun p (.write (a + 1) later (written + 1))

/-- One word access of the port's data run; with no run in progress there is none (assumption log 2). -/
def State.accessWord (s : State) (p : PortId) (fails : Bool) : State :=
  match (s.port p).run with
  | none => s
  | some (.read a left got) => s.accessRead p fails a left got
  | some (.write a rest written) => s.accessWrite p a rest written

def execDataRunWordAccess (p : PortId) (checkFails : Bool) (s : State) : Outcome :=
  whenOperating s fun s => s.accessWord p checkFails

end Sys2Proof.Machine
end

