-- ==== Sys2Proof/Machine/Dispatch.lean ====
section
/-! DEFINITION. The meaning of every command and event: one arm per row of spec/opcode_table.json. -/

namespace Sys2Proof.Machine

def exec (i : Instr) (s : State) : Host.Outcome State Fault Refusal :=
  match i with
  | .echo p data => Sys2Proof.Machine.execEcho p data s
  | .setPort p timeout => Sys2Proof.Machine.execSetPort p timeout s
  | .portReset p target => Sys2Proof.Machine.execPortReset p target s
  | .deviceRestart p => Sys2Proof.Machine.execDeviceRestart p s
  | .writeMap p entries => Sys2Proof.Machine.execWriteMap p entries s
  | .readMap p target => Sys2Proof.Machine.execReadMap p target s
  | .translate p page => Sys2Proof.Machine.execTranslate p page s
  | .readWords p page offset count => Sys2Proof.Machine.execReadWords p page offset count s
  | .writeWords p page offset count words => Sys2Proof.Machine.execWriteWords p page offset count words s
  | .readPageFaults p => Sys2Proof.Machine.execReadPageFaults p s
  | .clearFaults p pages kinds clearOffline => Sys2Proof.Machine.execClearFaults p pages kinds clearOffline s
  | .defineContext p slot block => Sys2Proof.Machine.execDefineContext p slot block s
  | .setParams p slot block => Sys2Proof.Machine.execSetParams p slot block s
  | .readContext p slot => Sys2Proof.Machine.execReadContext p slot s
  | .clearContext p slot => Sys2Proof.Machine.execClearContext p slot s
  | .freeContext p slot => Sys2Proof.Machine.execFreeContext p slot s
  | .writeGate p gate present fields => Sys2Proof.Machine.execWriteGate p gate present fields s
  | .readGate p first count => Sys2Proof.Machine.execReadGate p first count s
  | .invoke p gate => Sys2Proof.Machine.execInvoke p gate s
  | .hold p slot => Sys2Proof.Machine.execHold p slot s
  | .resume p slot => Sys2Proof.Machine.execResume p slot s
  | .abort p slot => Sys2Proof.Machine.execAbort p slot s
  | .readRun p => Sys2Proof.Machine.execReadRun p s
  | .configLine p line fields => Sys2Proof.Machine.execConfigLine p line fields s
  | .clearLine p line => Sys2Proof.Machine.execClearLine p line s
  | .readLines p => Sys2Proof.Machine.execReadLines p s
  | .setTimer p reload run => Sys2Proof.Machine.execSetTimer p reload run s
  | .startCheck p pages request => Sys2Proof.Machine.execStartCheck p pages request s
  | .abortCheck p => Sys2Proof.Machine.execAbortCheck p s
  | .readCheck p => Sys2Proof.Machine.execReadCheck p s
  | .readEvents p => Sys2Proof.Machine.execReadEvents p s
  | .clearEvents p flags => Sys2Proof.Machine.execClearEvents p flags s
  | .setAttention p mask => Sys2Proof.Machine.execSetAttention p mask s
  | .readCompletions p => Sys2Proof.Machine.execReadCompletions p s
  | .select p => Sys2Proof.Machine.execSelect p s
  | .deselect p => Sys2Proof.Machine.execDeselect p s
  | .byteExchange p received => Sys2Proof.Machine.execByteExchange p received s
  | .receiveTimerExpiry p => Sys2Proof.Machine.execReceiveTimerExpiry p s
  | .dataRunWordAccess p checkFails => Sys2Proof.Machine.execDataRunWordAccess p checkFails s
  | .elementStep failingRead => Sys2Proof.Machine.execElementStep failingRead s
  | .pinLevelChange line level => Sys2Proof.Machine.execPinLevelChange line level s
  | .debounceExpiry line => Sys2Proof.Machine.execDebounceExpiry line s
  | .validationExpiry line => Sys2Proof.Machine.execValidationExpiry line s
  | .intervalTimerExpiry => Sys2Proof.Machine.execIntervalTimerExpiry s
  | .referenceTestComplete outcome => Sys2Proof.Machine.execReferenceTestComplete outcome s
  | .pageTestComplete outcome => Sys2Proof.Machine.execPageTestComplete outcome s
  | .pairTestComplete outcome => Sys2Proof.Machine.execPairTestComplete outcome s
  | .powerOn => Sys2Proof.Machine.execPowerOn s
  | .startupComplete straps => Sys2Proof.Machine.execStartupComplete straps s
  | .resetAssert => Sys2Proof.Machine.execResetAssert s
  | .resetRelease straps => Sys2Proof.Machine.execResetRelease straps s
  | .remainingCountFalls => Sys2Proof.Machine.execRemainingCountFalls s

end Sys2Proof.Machine
end

