-- ==== Sys2Proof/Machine/Step.lean ====
section
/-! DEFINITION. One step: the command or event at the front of the queue is taken, whole and indivisible. -/

namespace Sys2Proof.Machine

/-- The state with a queue of commands and events in place of its own. -/
def State.withPending (s : State) (queue : List Instr) : State := { s with pending := queue }

/-- Take the front of the queue and run it on the queue's rest; on an empty queue the part idles (assumption log 4). -/
def step (s : State) : Host.Outcome State Fault Refusal :=
  match s.pending with
  | [] => .next s
  | i :: rest => exec i (s.withPending rest)

/-- The command that a word spells, put at the front of the queue. No row of the table gives bits, so no word spells
one. -/
def State.withFetchWord (s : State) (nbits w : Nat) : State :=
  match decodeTableWord nbits w with
  | none => s
  | some i => s.withPending (i :: s.pending)

end Sys2Proof.Machine
end

