-- ==== Sys2Proof/Safety.lean ====
section
/-! DEFINITION. What a safe state of the part is: the invariants that every step keeps, and the conditions under which a
command is taken. -/

namespace Sys2Proof.Machine

/-! ### Conditions on the taking of a command -/

/-- A command of port p is taken as soon as its frame completes: the part operates and p has no data run in progress
(R14, R166, R177). -/
abbrev State.takes (s : State) (p : PortId) : Prop := s.phase = .operating ∧ (s.port p).run = none

/-! ### Array Store (R1, R2) -/

/-- The words of the store are in canonical form. -/
def StoreCanonical (s : State) : Prop := Memory.wf s.words

/-! ### Run structure (R66 to R69) -/

/-- The states of the active contexts name the collection each stands in: the head of the chain is RUNNING, the members
below it are PREEMPTED, the ready list and the held set hold the READY and the HELD contexts (R66, R67). -/
def CollectionsMatch (s : State) : Prop :=
  ∀ c : ContextId,
    (s.chain.head? = some c ↔ (s.ctx c).map (·.state) = some .running) ∧
    (c ∈ s.chain.tail ↔ (s.ctx c).map (·.state) = some .preempted) ∧
    (c ∈ s.ready ↔ (s.ctx c).map (·.state) = some .ready) ∧
    (c ∈ s.heldSet ↔ (s.ctx c).map (·.state) = some .held)

/-- The run structure is whole: collections that match the states, no context twice, a chain of at most 4, a ready list
in non-increasing priority, a held set kept in ascending order, and no READY context while nothing runs. -/
def RunStructure (s : State) : Prop :=
  CollectionsMatch s ∧ s.chain.Nodup ∧ s.chain.length ≤ Config.chainDepth ∧ s.ready.Nodup ∧
    s.ready.Pairwise (fun a b => s.priorityOf b ≤ s.priorityOf a) ∧ s.heldSet.Pairwise (· < ·) ∧
    (s.chain = [] → s.ready = [])

/-! ### Context records (R22 to R30) -/

/-- Whether an operation part is of the kind that an operation keeps, with the bounds of R29 for a next index n. -/
def partFits (op : Operation) (n : Nat) : OpPart → Prop
  | .plain => op.initialPart = .plain
  | .accumulator _ => op.initialPart = .accumulator 0
  | .hits h => op.initialPart = .hits 0 ∧ h ≤ n
  | .peak none => op.initialPart = .peak none
  | .peak (some (_, i)) => op.initialPart = .peak none ∧ i < n

/-- The record of a defined context is one that R22 to R30 admit. -/
def RecordFits (k : Context) : Prop :=
  1 ≤ k.block.count ∧ k.block.count ≤ 4096 ∧ k.block.inRange = true ∧ k.continuation.next ≤ k.block.count ∧
    (k.state.isActive = true → k.continuation.next < k.block.count) ∧
    (k.state = .done → k.continuation.next = k.block.count) ∧
    partFits k.block.operation k.continuation.next k.continuation.part ∧
    (k.state = .faulted ↔ k.cause.isSome = true) ∧ (k.state.isActive = true → k.startedBy.isSome = true) ∧
    (k.nested = true → k.state = .running ∨ k.state = .preempted)

/-- Every defined context has a record that fits. -/
def RecordsFit (s : State) : Prop := ∀ c k, s.ctx c = some k → RecordFits k

/-! ### Pages under test (R5, R41, R42, R144 to R155) -/

/-- HELD marks the selected pages of a RUNNING check and no other page; a check runs on a working store, and only
selected pages have results. -/
def CheckHolds (s : State) : Prop :=
  (∀ g, s.heldMark g = (decide (s.check.state = .running) && s.check.selected.getLsbD g.val)) ∧
    (s.check.state = .running → s.offline = false ∧ s.check.starter.isSome = true ∧ s.check.current ≠ .none) ∧
    (∀ g : PhysicalPage, (s.check.results[g]).isSome = s.check.selected.getLsbD g.val) ∧
    (∀ g, s.check.current = .page g → s.check.selected.getLsbD g.val = true) ∧
    (∀ a b, s.check.current = .pair a b →
      s.check.selected.getLsbD a.val = true ∧ s.check.selected.getLsbD b.val = true)

/-- Every page that an active context reaches is mapped by its owner with the access it needs and is under no test. -/
def SpansProtected (s : State) : Prop :=
  ∀ c k, s.ctx c = some k → k.state.isActive = true →
    s.accessGiven k.owner k.block = true ∧ ∀ g ∈ s.span k.owner k.block, s.heldMark g = false

/-! ### Lines (R122 to R129) -/

/-- A disabled line is exactly one whose enable is no; its timers run exactly while it is qualified, which a line of
source TIMER never is. -/
def LineFits (n : Line) : Prop :=
  (n.config.enable = false ↔ n.state = .disabled) ∧ (n.debounceTimer.isSome = true ↔ n.state = .debouncing) ∧
    (n.validationTimer.isSome = true ↔ n.state = .validating) ∧
    (n.config.source = .timer → n.state ≠ .debouncing ∧ n.state ≠ .validating)

def LinesFit (s : State) : Prop := ∀ l, LineFits (s.line l)

/-! ### Ports (R159 to R168) -/

/-- A frame in assembly is shorter than its length L, which is its first byte and 3 to 255; a frame is in assembly, and
a response is going out, only in a select period; the receive timer runs only in RECEIVING; a frame is kept only while a
data run is in progress; a response still pending is the pending response and not yet out. -/
def PortFits (pt : Port) : Prop :=
  (∀ L bytes, pt.receive = .receiving L bytes →
      pt.selected = true ∧ 3 ≤ L ∧ L ≤ 255 ∧ bytes.length < L ∧ bytes.head? = some (byteOfNat L)) ∧
    (pt.receive = .discarding → pt.selected = true) ∧
    (pt.receiveTimer.isSome = true → ∃ L bytes, pt.receive = .receiving L bytes) ∧
    (pt.outgoing.isSome = true → pt.selected = true) ∧
    (pt.kept.isSome = true → pt.run.isSome = true) ∧
    (∀ o, pt.outgoing = some o → o.stillPending = true →
      pt.response = some o.response ∧ o.sent < o.response.frame.length)

def PortsFit (s : State) : Prop := ∀ p, PortFits (s.port p)

/-! ### Events (R40, R136, R178 to R181) -/

/-- A port's attention output is asserted exactly while the part operates and the port's flags and mask share a
member (R177, R181). -/
def AttentionFollows (s : State) : Prop :=
  ∀ p, (s.eventsAt p).attention =
    (decide (s.phase = .operating) && (s.eventsAt p).flags &&& (s.eventsAt p).mask != 0)

/-- Notices and last-started fields name defined contexts alone (R40, R136). -/
def NoticesNamed (s : State) : Prop :=
  (∀ p c, ((s.eventsAt p).completions[c]).isSome = true → (s.ctx c).isSome = true) ∧
    ∀ l c, (s.line l).lastStarted = some c → (s.ctx c).isSome = true

end Sys2Proof.Machine
end

