-- ==== Sys2Proof/WellFormed.lean ====
section
/-! DEFINITION. When a command or event is one that the part can receive: a command fits a frame of at most 255 bytes
(R161), and the failing read of an element step is one of the at most 2M = 128 reads a step takes (R111). -/

namespace Sys2Proof

/-- The checks of well-formedness. A command that passes has a frame of L ≤ 255 bytes; every other operand is
admitted at each of its values, and the command's own checks judge it (R166, R187). -/
def Instr.wellFormed : Instr → Bool
  | .echo _ data => data.length ≤ 252
  | .writeMap _ entries => entries.length ≤ 84
  | .writeWords _ _ _ _ words => words.length ≤ 62
  | .elementStep failingRead => failingRead.all (· < 128)
  | .setPort .. | .portReset .. | .deviceRestart .. | .readMap .. | .translate .. | .readWords .. | .readPageFaults ..
  | .clearFaults .. | .defineContext .. | .setParams .. | .readContext .. | .clearContext .. | .freeContext ..
  | .writeGate .. | .readGate .. | .invoke .. | .hold .. | .resume .. | .abort .. | .readRun .. | .configLine ..
  | .clearLine .. | .readLines .. | .setTimer .. | .startCheck .. | .abortCheck .. | .readCheck .. | .readEvents ..
  | .clearEvents .. | .setAttention .. | .readCompletions .. | .select .. | .deselect .. | .byteExchange ..
  | .receiveTimerExpiry .. | .dataRunWordAccess .. | .pinLevelChange .. | .debounceExpiry .. | .validationExpiry ..
  | .intervalTimerExpiry | .referenceTestComplete .. | .pageTestComplete .. | .pairTestComplete .. | .powerOn
  | .startupComplete .. | .resetAssert | .resetRelease .. | .remainingCountFalls => true

/-- The issuing port of a command; `none` for the rows that are events and not commands of a frame. -/
def Instr.commandPort : Instr → Option PortId
  | .echo p .. | .setPort p .. | .portReset p .. | .deviceRestart p | .writeMap p .. | .readMap p .. | .translate p ..
  | .readWords p .. | .writeWords p .. | .readPageFaults p | .clearFaults p .. | .defineContext p .. | .setParams p ..
  | .readContext p .. | .clearContext p .. | .freeContext p .. | .writeGate p .. | .readGate p .. | .invoke p ..
  | .hold p .. | .resume p .. | .abort p .. | .readRun p | .configLine p .. | .clearLine p .. | .readLines p
  | .setTimer p .. | .startCheck p .. | .abortCheck p | .readCheck p | .readEvents p | .clearEvents p ..
  | .setAttention p .. | .readCompletions p => some p
  | .select .. | .deselect .. | .byteExchange .. | .receiveTimerExpiry .. | .dataRunWordAccess .. | .elementStep ..
  | .pinLevelChange .. | .debounceExpiry .. | .validationExpiry .. | .intervalTimerExpiry | .referenceTestComplete ..
  | .pageTestComplete .. | .pairTestComplete .. | .powerOn | .startupComplete .. | .resetAssert | .resetRelease ..
  | .remainingCountFalls => none

end Sys2Proof
end

