-- ==== Sys2Proof/Certificates/Slice0/Obligations.lean ====
section
/-! DEFINITION. The statements for the provers. -/

open Sys2Proof Sys2Proof.Machine

/-- A step runs the command at the front of the queue on the queue's rest, and idles on an empty queue
(95_what_each_step_holds.md, 00_scope.md, Conventions, Time). -/
def Obligations.StepTakesTheFrontOfTheQueue : Prop :=
  (∀ (c : Instr) (rest : List Instr) (s : State), step (s.withPending (c :: rest)) = exec c (s.withPending rest)) ∧
    (∀ s : State, s.pending = [] → step s = .next s)

/-- Every command and event answers a next state and leaves the queue alone (08_command_ports.md, 8.6 Status codes,
95_what_each_step_holds.md). The model's deduction (log entry 18) and the model's own queue (log entry 4). -/
def Obligations.EveryCommandAnswersNextState : Prop :=
  ∀ (c : Instr) (s : State), ∃ t, exec c s = .next t ∧ t.pending = s.pending

/-- Reading the frame of a well-formed command gives the command back (R161, R162, R166, R187, R188,
11_frame_and_record_formats.md, 11.2 and 11.3). -/
def Obligations.FramesRoundTrip : Prop :=
  ∀ (i : Instr) (p : PortId), i.wellFormed = true → i.commandPort = some p → decodeFrame p (encodeFrame i) = .ok i

/-- A closed frame's check ends at 00H; codes, lengths and field bytes of a frame are read as the tables of 11.1 and
11.2 say (R161, R162, R166, R187, R188, 11_frame_and_record_formats.md, 11.1 and 11.2). -/
def Obligations.FramesCloseAndForeignCodesAreUnknown : Prop :=
  (∀ middle : List Byte, middle.length ≤ 253 →
      closeFrame middle =
          byteOfNat (middle.length + 2) :: (middle ++ [crc8 (byteOfNat (middle.length + 2) :: middle)]) ∧
        (closeFrame middle).length = middle.length + 2 ∧ (closeFrame middle).head? = some (byteOfNat (closeFrame middle).length) ∧
        crc8 (closeFrame middle) = 0) ∧
    (∀ (p : PortId) (code : Byte) (params : List Byte),
      (code.toNat ∉ [0x01, 0x02, 0x03, 0x04, 0x10, 0x11, 0x12, 0x13, 0x14, 0x15, 0x16, 0x20, 0x21, 0x22, 0x23, 0x30, 0x31,
          0x32, 0x40, 0x41, 0x42, 0x43, 0x50, 0x51, 0x52, 0x53, 0x60, 0x61, 0x62, 0x70, 0x71, 0x72, 0x73] →
        readCommand p code params = .error .unknown) ∧
      ((∀ mode rest, params = mode :: rest → mode ≠ 0x00#8 ∧ mode ≠ 0x01#8) → readCommand p 0x20 params = .error .unknown)) ∧
    (∀ (p : PortId) (code : Byte) (params : List Byte), params.length ≤ 252 →
      code.toNat ∈ [0x01, 0x02, 0x03, 0x04, 0x10, 0x11, 0x12, 0x13, 0x14, 0x15, 0x16, 0x21, 0x22, 0x23, 0x30, 0x31, 0x32,
          0x40, 0x41, 0x42, 0x43, 0x50, 0x51, 0x52, 0x53, 0x60, 0x61, 0x62, 0x70, 0x71, 0x72, 0x73] ∨
        (code = 0x20 ∧ (params.head? = some 0x00 ∨ params.head? = some 0x01)) →
      let L : Nat := params.length + 3
      let admitted : Prop :=
        code = 0x01 ∨ (code.toNat ∈ [0x04, 0x15, 0x43, 0x52, 0x61, 0x62, 0x70, 0x73] ∧ L = 3) ∨
          (code.toNat ∈ [0x02, 0x03, 0x11, 0x12, 0x21, 0x22, 0x23, 0x32, 0x40, 0x41, 0x42, 0x51, 0x71, 0x72] ∧ L = 4) ∨
          (code = 0x31 ∧ L = 5) ∨ (code.toNat ∈ [0x13, 0x53] ∧ L = 6) ∨ (code = 0x30 ∧ L = 9) ∨
          (code.toNat ∈ [0x50, 0x60] ∧ L = 12) ∨ (code = 0x16 ∧ L = 13) ∨ (code = 0x20 ∧ L = 27) ∨
          (code = 0x10 ∧ ∃ k, k ≤ 84 ∧ L = 3 + 3 * k) ∨ (code = 0x14 ∧ ∃ k, k ≤ 62 ∧ L = 6 + 4 * k)
      (admitted → ∃ i, readCommand p code params = .ok i ∧ i.code = code ∧ i.commandPort = some p) ∧
        (¬admitted → readCommand p code params = .error .length)) ∧
    (∀ (p : PortId) (b0 b1 b2 b3 b4 b5 b6 b7 x y : Byte),
      ∃ pages : PageSet,
        (∀ (i j : Nat) (b : Byte), [b0, b1, b2, b3, b4, b5, b6, b7][i]? = some b → j < 8 →
          pages.getLsbD (8 * i + j) = b.getLsbD j) ∧
        readCommand p 0x16 [b0, b1, b2, b3, b4, b5, b6, b7, x, y] =
          .ok (.clearFaults p pages ⟨x.getLsbD 0, x.getLsbD 1, x.getLsbD 2⟩ (y != 0x00)) ∧
        readCommand p 0x60 [b0, b1, b2, b3, b4, b5, b6, b7, x] =
          .ok (.startCheck p pages ⟨x.getLsbD 1, x.getLsbD 2⟩)) ∧
    (∀ (p : PortId) (a b c d e f g h k : Byte),
      readCommand p 0x30 [a, b, c, d, e, f] = .ok (.writeGate p a (b != 0x00) ⟨c, d, e, f != 0x00⟩) ∧
        readCommand p 0x50 [a, b, c, d, e, f, g, h, k] = .ok (.configLine p a ⟨b != 0x00, c, d, e, f, g, h, k⟩) ∧
        readCommand p 0x53 [a, b, c] = .ok (.setTimer p (a ++ b) (c != 0x00))) ∧
    ∀ (p : PortId) (slot op pr em n1 n0 m sh w3 w2 w1 w0 rel mag xp xo xs yp yo ys zp zo zs : Byte),
      let bytes : List Byte :=
        [slot, op, pr, em, n1, n0, m, sh, w3, w2, w1, w0, rel, mag, xp, xo, xs, yp, yo, ys, zp, zo, zs]
      let fields : BlockFields :=
        { operation := op, priority := pr, mask := ⟨em.getLsbD 0, em.getLsbD 1⟩, count := n1 ++ n0, taps := m, shift := sh
          scalar := w3 ++ w2 ++ w1 ++ w0, relation := rel, magnitude := mag != 0x00
          x := ⟨xp, xo, xs⟩, y := ⟨yp, yo, ys⟩, z := ⟨zp, zo, zs⟩ }
      readCommand p 0x20 (0x00 :: bytes) = .ok (.defineContext p slot fields) ∧
        readCommand p 0x20 (0x01 :: bytes) = .ok (.setParams p slot fields)

/-- An answer becomes the port's pending response and changes nothing else (R161, R167, R168). -/
def Obligations.AnswerReplacesPendingResponse : Prop :=
  ∀ (s : State) (p : PortId) (code : Byte) (st : Status) (rs : List Byte),
    s.answer p code st rs =
        { s with ports := (s.answer p code st rs).ports } ∧
      (∀ q, q ≠ p → (s.answer p code st rs).port q = s.port q) ∧
      (s.answer p code st rs).port p =
        { s.port p with
          response := some ⟨code, st, rs⟩
          outgoing := (s.port p).outgoing.map fun o => ⟨o.response, o.sent, false⟩ } ∧
      (rs.length ≤ 251 → (Response.frame ⟨code, st, rs⟩).length = 4 + rs.length ∧
        (Response.frame ⟨code, st, rs⟩).take 3 = [byteOfNat (4 + rs.length), code, st.toByte])

/-- ECHO returns 1 to 250 data bytes and is refused PARAM for 0 or more than 250 (R170). -/
def Obligations.EchoReturnsItsData : Prop :=
  ∀ (p : PortId) (data : List Byte) (s : State), s.takes p →
    (1 ≤ data.length ∧ data.length ≤ 250 →
      exec (.echo p data) s = .next (s.answer p 0x01 .ok data) ∧
        (Response.frame ⟨0x01, .ok, data⟩).length = 4 + data.length) ∧
    (data.length = 0 ∨ 250 < data.length → exec (.echo p data) s = .next (s.answer p 0x01 .param []))

/-- SET_PORT sets the receive timeout and returns port, level and timeout (R171). -/
def Obligations.SetPortSetsReceiveTimeout : Prop :=
  ∀ (p : PortId) (timeout : Byte) (s : State), s.takes p →
    exec (.setPort p timeout) s =
      .next (({ s with ports := update s.ports p { s.port p with timeout := timeout } } : State).answer p 0x02 .ok
        [byteOfNat p.val, byteOfNat (s.level p).val, timeout])

/-- What leaves the run structure leaves the rest in order, and the successor runs (R75, R82, R83, R84, R87). -/
def Obligations.WithdrawalKeepsOrderAndRunsSuccessor : Prop :=
  ∀ (s : State) (leaving : ContextId → Bool),
    let stay : List ContextId → List ContextId := fun l => l.filter fun c => !leaving c
    let t := s.withdraw leaving
    t = { s with chain := t.chain, ready := t.ready, heldSet := t.heldSet, contexts := t.contexts } ∧
      t.heldSet = stay s.heldSet ∧
      (∀ h rest, stay s.chain = h :: rest → t.chain = h :: rest ∧ t.ready = stay s.ready ∧
        ∀ c, t.ctx c = if c = h then (s.ctx c).map (fun k => { k with state := .running }) else s.ctx c) ∧
      (∀ d rest, stay s.chain = [] → stay s.ready = d :: rest → t.chain = [d] ∧ t.ready = rest ∧
        ∀ c, t.ctx c = if c = d then (s.ctx c).map (fun k => { k with state := .running }) else s.ctx c) ∧
      (stay s.chain = [] → stay s.ready = [] → t.chain = [] ∧ t.ready = [] ∧ ∀ c, t.ctx c = s.ctx c)

/-- PORT_RESET frees the target's contexts and resets its map, events, lines and port state (R87, R88, R172, R173, R174,
R44, R136). The stored period of an unselected issuer, the dropped frame in assembly and the pass after the answer
are the model's (log entries 13, 14, 23). -/
def Obligations.PortResetClearsTheTargetPort : Prop :=
  ∀ (p : PortId) (target : Byte) (s : State), s.takes p →
    (indexOf 4 target = none → exec (.portReset p target) s = .next (s.answer p 0x03 .param [])) ∧
    ∀ q : PortId, indexOf 4 target = some q →
      (q ≠ p ∧ s.level p ≠ 0 → exec (.portReset p target) s = .next (s.answer p 0x03 .denied [])) ∧
      (q = p ∨ s.level p = 0 →
        ∃ r : State,
          exec (.portReset p target) s = .next ((r.answer p 0x03 .ok []).serviceIf (s.mapLocked q)) ∧
          r = { s with
            chain := r.chain, ready := r.ready, heldSet := r.heldSet, contexts := r.contexts, maps := r.maps
            events := r.events, lines := r.lines, ports := r.ports } ∧
          r.chain = (s.withdraw (s.activeOwnedBy q)).chain ∧ r.ready = (s.withdraw (s.activeOwnedBy q)).ready ∧
          r.heldSet = (s.withdraw (s.activeOwnedBy q)).heldSet ∧
          (∀ c, r.ctx c = if s.ownedBy q c then none else (s.withdraw (s.activeOwnedBy q)).ctx c) ∧
          (∀ x l, r.entry x l = if x = q then ⟨0, .absent⟩ else s.entry x l) ∧
          r.eventsAt q = ⟨0, 0, Vector.replicate 32 none, false⟩ ∧
          (∀ x, x ≠ q → (r.eventsAt x).flags = (s.eventsAt x).flags ∧ (r.eventsAt x).mask = (s.eventsAt x).mask ∧
            (r.eventsAt x).attention = (s.eventsAt x).attention ∧
            ∀ c : ContextId, (r.eventsAt x).completions[c] =
              if s.ownedBy q c then none else (s.eventsAt x).completions[c]) ∧
          (∀ l, r.line l =
            { s.line l with
              state := if (s.line l).state = .refused ∧ (s.line l).config.report = q then .listening else (s.line l).state
              debounceTimer :=
                if (s.line l).state = .refused ∧ (s.line l).config.report = q then none else (s.line l).debounceTimer
              validationTimer :=
                if (s.line l).state = .refused ∧ (s.line l).config.report = q then none else (s.line l).validationTimer
              lastStarted := (s.line l).lastStarted.filter fun c => !s.ownedBy q c }) ∧
          (∀ x, x ≠ q → r.port x = s.port x) ∧
          (q ≠ p → r.port q =
            { s.port q with
              receive := if (s.port q).selected then .discarding else .waitLength
              timeout := 20, receiveTimer := none, response := none, outgoing := none, run := none, kept := none }) ∧
          (q = p → r.port q =
            { s.port q with
              receive := .waitLength, period := if (s.port q).selected then .closed else .open
              timeout := 20, receiveTimer := none, run := none, kept := none }))

/-- DEVICE_RESTART returns every block to its defaults but levels, words, fault sets and OFFLINE (R175, R176, R43, R46,
R70, R143, R158). The kept pins, the kept data outputs with the stored period of an unselected issuer, and the
dropped frame in assembly are the model's (log entries 6, 13, 14). -/
def Obligations.DeviceRestartKeepsWordsFaultsAndLevels : Prop :=
  ∀ (p : PortId) (s : State), s.takes p →
    (s.level p ≠ 0 → exec (.deviceRestart p) s = .next (s.answer p 0x04 .denied [])) ∧
    (s.level p = 0 →
      ∃ r : State, exec (.deviceRestart p) s = .next (r.answer p 0x04 .ok []) ∧
        r = { State.reset with
          phase := s.phase, faults := s.faults, offline := s.offline, pins := s.pins, pending := s.pending
          words := r.words, ports := r.ports } ∧
        (∀ a, r.words.read a =
          if s.check.state = .running ∧
              ((∃ g, s.check.current = .page g ∧ inPage g a = true) ∨
                ∃ g h, s.check.current = .pair g h ∧ (inPage g a = true ∨ inPage h a = true)) then 0
          else s.words.read a) ∧
        (∀ q, q ≠ p → r.port q =
          { s.port q with
            receive := if (s.port q).selected then .discarding else .waitLength
            timeout := 20, receiveTimer := none, response := none, outgoing := none, run := none, kept := none }) ∧
        r.port p =
          { s.port p with
            receive := .waitLength, period := if (s.port p).selected then .closed else .open
            timeout := 20, receiveTimer := none, run := none, kept := none })

/-- WRITE_MAP writes the listed entries of its own map, or is refused in the order of its checks (R8, R9, R6). -/
def Obligations.WriteMapWritesTheListedEntries : Prop :=
  ∀ (p : PortId) (fs : List MapFields) (s : State), s.takes p →
    let valid : Prop := 1 ≤ fs.length ∧ fs.length ≤ 16 ∧ (fs.map fun f => f.logical).Nodup ∧
      ∀ f ∈ fs, f.logical.toNat < 16 ∧ f.physical.toNat < 64 ∧ f.access.toNat < 3
    let targetsFault : Prop := ∃ f ∈ fs, ∃ g, indexOf 64 f.physical = some g ∧ f.access ≠ 0 ∧ s.carriesFault g = true
    (¬valid → exec (.writeMap p fs) s = .next (s.answer p 0x10 .param [])) ∧
    (valid → s.mapLocked p = true → exec (.writeMap p fs) s = .next (s.answer p 0x10 .mapLocked [])) ∧
    (valid → s.mapLocked p = false → targetsFault → exec (.writeMap p fs) s = .next (s.answer p 0x10 .pageFault [])) ∧
    (valid → s.mapLocked p = false → ¬targetsFault →
      ∃ m : Vector WindowMap 4, exec (.writeMap p fs) s = .next (({ s with maps := m } : State).answer p 0x10 .ok []) ∧
        (∀ q, q ≠ p → m[q] = s.maps[q]) ∧
        (∀ l : LogicalPage, (∀ f ∈ fs, f.logical.toNat ≠ l.val) → (m[p])[l] = s.entry p l) ∧
        ∀ f ∈ fs, ∀ (l : LogicalPage) (g : PhysicalPage) (a : Access),
          f.logical.toNat = l.val → f.physical.toNat = g.val → parseAccess f.access = some a → (m[p])[l] = ⟨g, a⟩)

/-- READ_MAP, TRANSLATE and READ_PAGE_FAULTS return maps and page state as they stand and change nothing (R10, R11,
R20). -/
def Obligations.StoreReadsReturnMapsAndPageState : Prop :=
  (∀ (p : PortId) (target : Byte) (s : State), s.takes p →
      (3 < target.toNat → exec (.readMap p target) s = .next (s.answer p 0x11 .param [])) ∧
      ∀ q : PortId, target.toNat = q.val →
        exec (.readMap p target) s = .next (s.answer p 0x11 .ok
          ((List.finRange 16).flatMap fun l => [byteOfNat (s.entry q l).page.val, accessByte (s.entry q l).access]))) ∧
    (∀ (p : PortId) (page : Byte) (s : State), s.takes p →
      (15 < page.toNat → exec (.translate p page) s = .next (s.answer p 0x12 .param [])) ∧
      ∀ l : LogicalPage, page.toNat = l.val →
        ∃ b : Byte, exec (.translate p page) s = .next (s.answer p 0x12 .ok
            [byteOfNat (s.entry p l).page.val, accessByte (s.entry p l).access, b]) ∧
          b.getLsbD 0 = (s.faultsOf (s.entry p l).page).pattern ∧ b.getLsbD 1 = (s.faultsOf (s.entry p l).page).decode ∧
          b.getLsbD 2 = (s.faultsOf (s.entry p l).page).word ∧ b.getLsbD 7 = s.heldMark (s.entry p l).page ∧
          b &&& 0x78 = 0) ∧
    (∀ (p : PortId) (s : State), s.takes p →
      ∃ rs : List Byte, exec (.readPageFaults p) s = .next (s.answer p 0x15 .ok rs) ∧ rs.length = 65 ∧
        (∀ g : PhysicalPage, ∃ b : Byte, rs[g.val]? = some b ∧ b.getLsbD 0 = (s.faultsOf g).pattern ∧
          b.getLsbD 1 = (s.faultsOf g).decode ∧ b.getLsbD 2 = (s.faultsOf g).word ∧ b.getLsbD 7 = s.heldMark g) ∧
        rs[64]? = some (if s.offline then 0x01 else 0x00))

/-- READ_WORDS and WRITE_WORDS make their six checks in order and start the data run (R12, R14, R187). -/
def Obligations.DataCommandsCheckThenStartTheRun : Prop :=
  ∀ (p : PortId) (page offset count : Byte) (words : List Word) (s : State), s.takes p →
    let base : Nat := page.toNat * 256 + offset.toNat
    let reached : Nat → LogicalAddress := fun j => BitVec.ofNat 12 (base + j)
    let inWindow : Prop := page.toNat ≤ 15 ∧ base + count.toNat - 1 ≤ 4095
    let counted : Prop := 1 ≤ count.toNat ∧ count.toNat ≤ 62
    let faulty : Prop := ∃ j < count.toNat, s.carriesFault (s.entryFor p (reached j)).page = true
    let held : Prop := ∃ j < count.toNat, s.heldMark (s.entryFor p (reached j)).page = true
    let readable : Prop := ∀ j < count.toNat, (s.entryFor p (reached j)).access ≠ .absent
    let writable : Prop := ∀ j < count.toNat, (s.entryFor p (reached j)).access = .readWrite
    let refused : Byte → Status → Outcome := fun code st => .next (s.answer p code st [])
    (¬counted → exec (.readWords p page offset count) s = refused 0x13 .param) ∧
    (counted → ¬inWindow → exec (.readWords p page offset count) s = refused 0x13 .range) ∧
    (counted → inWindow → s.offline = true → exec (.readWords p page offset count) s = refused 0x13 .offline) ∧
    (counted → inWindow → s.offline = false →
      (¬readable → exec (.readWords p page offset count) s = refused 0x13 .mapAccess) ∧
      (readable → faulty → exec (.readWords p page offset count) s = refused 0x13 .pageFault) ∧
      (readable → ¬faulty → held → exec (.readWords p page offset count) s = refused 0x13 .pageHeld) ∧
      (readable → ¬faulty → ¬held → exec (.readWords p page offset count) s =
        .next (s.modPort p fun pt => { pt with run := some (.read (reached 0) count.toNat []) }))) ∧
    (¬(counted ∧ words.length = count.toNat) →
      exec (.writeWords p page offset count words) s = refused 0x14 .param) ∧
    (counted → words.length = count.toNat →
      (¬inWindow → exec (.writeWords p page offset count words) s = refused 0x14 .range) ∧
      (inWindow → s.offline = true → exec (.writeWords p page offset count words) s = refused 0x14 .offline) ∧
      (inWindow → s.offline = false →
        (¬writable → exec (.writeWords p page offset count words) s = refused 0x14 .mapAccess) ∧
        (writable → faulty → exec (.writeWords p page offset count words) s = refused 0x14 .pageFault) ∧
        (writable → ¬faulty → held → exec (.writeWords p page offset count words) s = refused 0x14 .pageHeld) ∧
        (writable → ¬faulty → ¬held → exec (.writeWords p page offset count words) s =
          .next (s.modPort p fun pt => { pt with run := some (.write (reached 0) words 0) }))))

/-- A word access of a data run reads or writes the one word its address reaches (R1, R7, R13, R14). -/
def Obligations.DataRunAccessesOneWord : Prop :=
  ∀ (p : PortId) (s : State) (a : LogicalAddress), s.phase = .operating → StoreCanonical s →
    s.pageRefusal (s.entryFor p a).page = none →
    (∀ left got, (s.port p).run = some (.read a left got) →
      (1 < left → exec (.dataRunWordAccess p false) s =
        .next (s.modPort p fun pt =>
          { pt with run := some (.read (a + 1) (left - 1) (got ++ [s.words.read (s.physical p a)])) })) ∧
      (left ≤ 1 → (s.port p).kept = none → exec (.dataRunWordAccess p false) s =
        .next ((s.modPort p fun pt => { pt with run := none }).answer p 0x13 .ok
          ((got ++ [s.words.read (s.physical p a)]).flatMap bytes32)))) ∧
    (∀ w later written fails, (s.port p).run = some (.write a (w :: later) written) →
      ∃ m : Memory, (∀ b, m.read b = if b = s.physical p a then w else s.words.read b) ∧
        (later ≠ [] → exec (.dataRunWordAccess p fails) s =
          .next (({ s with words := m } : State).modPort p fun pt =>
            { pt with run := some (.write (a + 1) later (written + 1)) })) ∧
        (later = [] → (s.port p).kept = none → exec (.dataRunWordAccess p fails) s =
          .next ((({ s with words := m } : State).modPort p fun pt => { pt with run := none }).answer p 0x14 .ok
            [byteOfNat (written + 1)])))

/-- A data run is cut short at a page that fails its test, and a read run ends at a word that fails its check (R13, R14,
R17, R18). -/
def Obligations.DataRunsEndAtBadPagesAndWords : Prop :=
  (∀ (p : PortId) (s : State) (a : LogicalAddress) (fails : Bool), s.phase = .operating → (s.port p).kept = none →
      let page : PhysicalPage := (s.entryFor p a).page
      let refusal : Option Status :=
        if s.offline then some .offline else if faulty (s.faultsOf page) then some .pageFault
        else if s.heldMark page then some .pageHeld else none
      ∀ st, refusal = some st →
        (∀ left got, (s.port p).run = some (.read a left got) → exec (.dataRunWordAccess p fails) s =
          .next ((s.modPort p fun pt => { pt with run := none }).answer p 0x13 st [])) ∧
        ∀ w later written, (s.port p).run = some (.write a (w :: later) written) → exec (.dataRunWordAccess p fails) s =
          .next ((s.modPort p fun pt => { pt with run := none }).answer p 0x14 st [byteOfNat written])) ∧
    (∀ (p : PortId) (s : State) (a : LogicalAddress) (left : Nat) (got : List Word),
      s.phase = .operating → (s.port p).run = some (.read a left got) → (s.port p).kept = none →
      s.pageRefusal (s.entryFor p a).page = none →
      let page : PhysicalPage := (s.entryFor p a).page
      ∃ r : State, exec (.dataRunWordAccess p true) s =
          .next ((r.modPort p fun pt => { pt with run := none }).answer p 0x13 .wordFault
            (bytes16 (BitVec.ofNat 16 a.toNat))) ∧
        r = { s with faults := r.faults, events := r.events } ∧
        (∀ g, r.faultsOf g = if g = page then { s.faultsOf g with word := true } else s.faultsOf g) ∧
        ∀ q, r.eventsAt q =
          if (s.faultsOf page).word = false ∧ ∃ l, (s.entry q l).page = page ∧ (s.entry q l).access ≠ .absent
          then (s.eventsAt q).raise flagPage else s.eventsAt q)

/-- A command completing in its port's data run is kept, a second discarded, and the kept one taken at the end (R14,
R166). That a command row's frame is the one that encodeFrame writes is the model's choice (log entry 1). -/
def Obligations.KeptFrameIsTakenAfterTheRun : Prop :=
  (∀ (p : PortId) (i : Instr) (s : State) (r : DataRun), i.commandPort = some p → s.phase = .operating →
    (s.port p).run = some r →
    ((s.port p).kept = none →
      exec i s = .next (s.modPort p fun pt => { pt with kept := some (encodeFrame i) })) ∧
    ((s.port p).kept ≠ none → exec i s = .next s)) ∧
  (∀ (p : PortId) (s : State) (code : Byte) (st : Status) (rs frame : List Byte), (s.port p).kept = some frame →
    s.endRun p code st rs =
      takeFrame p frame (((s.modPort p fun pt => { pt with run := none }).answer p code st rs).modPort p fun pt =>
        { pt with kept := none })) ∧
  ∀ (p : PortId) (s t : State) (fails : Bool) (frame : List Byte), s.phase = .operating → (s.port p).run ≠ none →
    (s.port p).kept = some frame →
    exec (.dataRunWordAccess p fails) (s.modPort p fun pt => { pt with kept := none }) = .next t →
    let run : Outcome := exec (.dataRunWordAccess p fails) s
    let code : Byte := frame.getD 1 0x00
    ((t.port p).run ≠ none → run = .next (t.modPort p fun pt => { pt with kept := some frame })) ∧
    ((t.port p).run = none → crc8 frame ≠ 0x00 → run = .next (t.answer p code .checksum [])) ∧
    ((t.port p).run = none → crc8 frame = 0x00 →
      (∀ st, readCommand p code (frame.drop 2).dropLast = .error st → run = .next (t.answer p code st [])) ∧
      ∀ i, readCommand p code (frame.drop 2).dropLast = .ok i → run = exec i t)

/-- CLEAR_FAULTS removes the named kinds from the named pages and clears OFFLINE on request (R21). -/
def Obligations.ClearFaultsRemovesTheNamedKinds : Prop :=
  ∀ (p : PortId) (pages : PageSet) (kinds : FaultSet) (clearOffline : Bool) (s : State), s.takes p →
    let run : Outcome := exec (.clearFaults p pages kinds clearOffline) s
    let asked : Prop := (pages ≠ 0 ∧ kinds ≠ ⟨false, false, false⟩) ∨ clearOffline = true
    (s.level p ≠ 0 → run = .next (s.answer p 0x16 .denied [])) ∧
    (s.level p = 0 → ¬asked → run = .next (s.answer p 0x16 .param [])) ∧
    (s.level p = 0 → asked → s.check.state = .running → run = .next (s.answer p 0x16 .busy [])) ∧
    (s.level p = 0 → asked → s.check.state ≠ .running →
      ∃ fs : Vector FaultSet 64,
        run = .next (({ s with faults := fs, offline := s.offline && !clearOffline } : State).answer p 0x16 .ok []) ∧
        ∀ g : PhysicalPage, fs[g] =
          if pages.getLsbD g.val then
            ⟨(s.faultsOf g).pattern && !kinds.pattern, (s.faultsOf g).decode && !kinds.decode,
             (s.faultsOf g).word && !kinds.word⟩
          else s.faultsOf g)

/-- A parameter block is refused PARAM exactly on the conditions of R25, then RANGE exactly on a checked address outside
the window (R24, R25, R26, R188, 11_frame_and_record_formats.md, 11.2). -/
def Obligations.BlockIsCheckedForParamAndRange : Prop :=
  (∀ f : BlockFields,
      let op : Nat := f.operation.toNat
      let badDescriptor : DescriptorFields → Prop := fun d =>
        15 < d.page.toNat ∨ d.step.toInt = 0 ∨ d.step.toInt < -16 ∨ 16 < d.step.toInt
      (checkBlock f = .error .param ↔
        op ∉ [0x01, 0x02, 0x03, 0x04, 0x05, 0x06, 0x07, 0x08, 0x09, 0x0A, 0x0B, 0x0C, 0x0D] ∨ 7 < f.priority.toNat ∨
          f.count.toNat = 0 ∨ 4096 < f.count.toNat ∨
          (op = 0x0D ∧ f.count.toNat ∉ [2, 4, 8, 16, 32, 64, 128, 256, 512, 1024]) ∨
          (op ∈ [0x08, 0x09] ∧ (f.taps.toNat = 0 ∨ 64 < f.taps.toNat)) ∨
          (op ∈ [0x04, 0x05, 0x07, 0x08, 0x09] ∧ 31 < f.shift.toNat) ∨
          (op ∈ [0x0A, 0x0B] ∧ 5 < f.relation.toNat) ∨
          badDescriptor f.x ∨
          (op ∈ [0x02, 0x03, 0x04, 0x07, 0x08, 0x09, 0x0A] ∧ badDescriptor f.y) ∨
          (op ≠ 0x0D ∧ badDescriptor f.z))) ∧
    (∀ o : Operand, 1 ≤ o.count →
      (o.inRange = true ↔
        ∀ j : Nat, j < o.count →
          0 ≤ o.descriptor.base + (o.first + j) * o.descriptor.step ∧
            o.descriptor.base + (o.first + j) * o.descriptor.step ≤ 4095)) ∧
    (∀ f : BlockFields, checkBlock f ≠ .error .param →
      let op : Nat := f.operation.toNat
      let N : Int := f.count.toNat
      let M : Int := f.taps.toNat
      let outside : DescriptorFields → Int → Int → Prop := fun d first last =>
        ∃ k : Int, first ≤ k ∧ k ≤ last ∧
          ¬(0 ≤ (d.page.toNat * 256 + d.offset.toNat : Int) + k * d.step.toInt ∧
            (d.page.toNat * 256 + d.offset.toNat : Int) + k * d.step.toInt ≤ 4095)
      (checkBlock f = .error .range ↔
        (op ≠ 0x08 ∧ outside f.x 0 (N - 1)) ∨ (op = 0x08 ∧ outside f.x (-(M - 1)) (N - 1)) ∨
          (op ∈ [0x02, 0x03, 0x04, 0x07, 0x0A] ∧ outside f.y 0 (N - 1)) ∨ (op ∈ [0x08, 0x09] ∧ outside f.y 0 (M - 1)) ∨
          (op ∈ [0x01, 0x02, 0x03, 0x04, 0x05, 0x06, 0x08, 0x09] ∧ outside f.z 0 (N - 1)) ∨
          (op = 0x07 ∧ outside f.z 0 0) ∨ (op ∈ [0x0A, 0x0B] ∧ outside f.z 0 N) ∨ (op = 0x0C ∧ outside f.z 0 1)) ∧
      (checkBlock f ≠ .error .range → ∃ b, checkBlock f = .ok b)) ∧
    ∀ (f : BlockFields) (b : Block), checkBlock f = .ok b →
      let op : Nat := f.operation.toNat
      let sh : Nat := f.shift.toNat
      let given : Descriptor → DescriptorFields → Prop := fun d g =>
        d.page.val = g.page.toNat ∧ d.offset.val = g.offset.toNat ∧ d.step = g.step.toInt
      b.priority.val = f.priority.toNat ∧ b.mask = f.mask ∧ b.count = f.count.toNat ∧
        ∃ x y z : Descriptor, ∃ rel : Relation, given x f.x ∧
          (op ∈ [0x02, 0x03, 0x04, 0x07, 0x08, 0x09, 0x0A] → given y f.y) ∧ (op ≠ 0x0D → given z f.z) ∧
          (op ∈ [0x0A, 0x0B] → [Relation.lt, .le, .eq, .ne, .gt, .ge][f.relation.toNat]? = some rel) ∧
          [Operation.copy x z, .add x y z, .sub x y z, .mulq sh x y z, .scale sh f.scalar x z, .offset f.scalar x z,
            .dot sh x y z, .fir f.taps.toNat sh x y z, .firz f.taps.toNat sh x y z, .cmp rel f.magnitude x y z,
            .cmps rel f.magnitude f.scalar x z, .peak x z, .reverse x][op - 1]? = some b.operation

/-- DEFINE_CONTEXT fills a FREE slot with an IDLE context of the issuing port, or is refused (R32, R33, R29). -/
def Obligations.DefineContextFillsAFreeSlot : Prop :=
  ∀ (p : PortId) (slot : Byte) (f : BlockFields) (s : State), s.takes p →
    let run : Outcome := exec (.defineContext p slot f) s
    (31 < slot.toNat → run = .next (s.answer p 0x20 .param [])) ∧
    ∀ c : ContextId, slot.toNat = c.val →
      (s.ctx c ≠ none → run = .next (s.answer p 0x20 .state [])) ∧
      (s.ctx c = none →
        (∀ st, checkBlock f = .error st → run = .next (s.answer p 0x20 st [])) ∧
        ∀ b, checkBlock f = .ok b →
          run = .next (({ s with contexts := update s.contexts c (some
            { state := .idle, owner := p, block := b, startedBy := none, nested := false
              continuation := ⟨0, b.operation.initialPart⟩, seen := ⟨false, false⟩, cause := none }) } :
            State).answer p 0x20 .ok []))

/-- SET_PARAMS replaces the block of an inactive context and sets its continuation for it (R34, R35). -/
def Obligations.SetParamsReplacesTheBlock : Prop :=
  ∀ (p : PortId) (slot : Byte) (f : BlockFields) (s : State), s.takes p →
    let run : Outcome := exec (.setParams p slot f) s
    (31 < slot.toNat → run = .next (s.answer p 0x20 .param [])) ∧
    ∀ c : ContextId, slot.toNat = c.val →
      (s.ctx c = none → run = .next (s.answer p 0x20 .noContext [])) ∧
      ∀ k, s.ctx c = some k →
        (k.owner ≠ p ∧ s.level p ≠ 0 → run = .next (s.answer p 0x20 .denied [])) ∧
        (k.owner = p ∨ s.level p = 0 →
          (k.state ∈ [.ready, .running, .preempted, .held] → run = .next (s.answer p 0x20 .busy [])) ∧
          (k.state ∈ [.idle, .done, .faulted] →
            (∀ st, checkBlock f = .error st → run = .next (s.answer p 0x20 st [])) ∧
            ∀ b, checkBlock f = .ok b →
              run = .next (({ s with contexts := update s.contexts c (some
                { k with
                  block := b
                  continuation := ⟨if k.state = .done then b.count else 0, b.operation.initialPart⟩ }) } :
                State).answer p 0x20 .ok [])))

/-- CLEAR_CONTEXT returns a context to IDLE; FREE_CONTEXT makes its slot FREE and removes its notices (R37, R38, R39,
R40, R136). -/
def Obligations.ClearAndFreeContext : Prop :=
  (∀ (p : PortId) (slot : Byte) (s : State), s.takes p →
      let run : Outcome := exec (.clearContext p slot) s
      (31 < slot.toNat → run = .next (s.answer p 0x22 .param [])) ∧
      ∀ c : ContextId, slot.toNat = c.val →
        (s.ctx c = none → run = .next (s.answer p 0x22 .noContext [])) ∧
        ∀ k, s.ctx c = some k →
          (k.owner ≠ p ∧ s.level p ≠ 0 → run = .next (s.answer p 0x22 .denied [])) ∧
          (k.owner = p ∨ s.level p = 0 →
            (k.state ∈ [.ready, .running, .preempted, .held] → run = .next (s.answer p 0x22 .busy [])) ∧
            (k.state = .idle → run = .next (s.answer p 0x22 .state [])) ∧
            (k.state ∈ [.done, .faulted] →
              run = .next ((({ s with contexts := update s.contexts c (some
                { k with
                  state := .idle, continuation := ⟨0, k.block.operation.initialPart⟩, seen := ⟨false, false⟩
                  cause := none }) } : State).servicePass).answer p 0x22 .ok [])))) ∧
    (∀ (p : PortId) (slot : Byte) (s : State), s.takes p →
      let run : Outcome := exec (.freeContext p slot) s
      (31 < slot.toNat → run = .next (s.answer p 0x23 .param [])) ∧
      ∀ c : ContextId, slot.toNat = c.val →
        (s.ctx c = none → run = .next (s.answer p 0x23 .noContext [])) ∧
        ∀ k, s.ctx c = some k →
          (k.owner ≠ p ∧ s.level p ≠ 0 → run = .next (s.answer p 0x23 .denied [])) ∧
          (k.owner = p ∨ s.level p = 0 →
            (k.state ∈ [.ready, .running, .preempted, .held] → run = .next (s.answer p 0x23 .busy [])) ∧
            (k.state ∈ [.idle, .done, .faulted] →
              ∃ r : State, run = .next (r.answer p 0x23 .ok []) ∧
                r = { s with contexts := r.contexts, events := r.events, lines := r.lines } ∧
                (∀ d, r.ctx d = if d = c then none else s.ctx d) ∧
                (∀ q, r.eventsAt q = { s.eventsAt q with completions := (r.eventsAt q).completions } ∧
                  ∀ d : ContextId, (r.eventsAt q).completions[d] = if d = c then none else (s.eventsAt q).completions[d]) ∧
                ∀ l, r.line l =
                  { s.line l with
                    lastStarted := if (s.line l).lastStarted = some c then none else (s.line l).lastStarted })))

/-- READ_CONTEXT, READ_GATE, READ_RUN, READ_LINES and READ_CHECK answer their records byte by byte and change nothing
else (R36, R51, R89, R140, R157, R189, 11_frame_and_record_formats.md, 11.2 and 11.3). -/
def Obligations.RecordReadsChangeNothing : Prop :=
  (let none3 : List Byte := [0xFF, 0x00, 0x00]
    let none4 : List Byte := [0xFF, 0xFF, 0xFF, 0xFF]
    let index : {n : Nat} → Fin n → Byte := fun i => byteOfNat i.val
    let yesNo : Bool → Byte := fun b => if b then 0x01 else 0x00
    let triple : Descriptor → List Byte := fun d => [index d.page, index d.offset, BitVec.ofInt 8 d.step]
    let relation : Relation → Byte := fun r =>
      match r with | .lt => 0x00 | .le => 0x01 | .eq => 0x02 | .ne => 0x03 | .gt => 0x04 | .ge => 0x05
    (∀ v : BitVec 16, bytes16 v = [byteOfNat (v.toNat / 2 ^ 8), byteOfNat v.toNat]) ∧
    (∀ v : Word, bytes32 v =
      [byteOfNat (v.toNat / 2 ^ 24), byteOfNat (v.toNat / 2 ^ 16), byteOfNat (v.toNat / 2 ^ 8), byteOfNat v.toNat]) ∧
    (∀ v : BitVec 64, bytes64 v =
      bytes32 (BitVec.ofNat 32 (v.toNat / 2 ^ 32)) ++ bytes32 (BitVec.ofNat 32 v.toNat)) ∧
    ([ContextState.idle, .ready, .running, .preempted, .held, .done, .faulted].map contextStateByte =
      [0x01, 0x02, 0x03, 0x04, 0x05, 0x06, 0x07]) ∧
    ([Status.ok, .checksum, .length, .unknown, .param, .denied, .range, .state, .busy, .noGate, .noContext, .ctxFaulted,
        .nestDepth, .offline, .mapAccess, .mapLocked, .pageFault, .pageHeld, .pageInUse, .wordFault, .chained].map
        Status.toByte = (List.range 21).map byteOfNat) ∧
    (∀ (pr : Fin 8) (m : SatSet) (n : Nat) (x y z : Descriptor) (sh taps : Nat) (w : Word) (r : Relation) (mag : Bool),
      let head : Byte → List Byte := fun code =>
        [code, index pr, byteOfNat ((if m.high then 1 else 0) + if m.low then 2 else 0)] ++ bytes16 (BitVec.ofNat 16 n)
      let bytes : Operation → List Byte := fun op => Block.bytes ⟨op, pr, m, n⟩
      bytes (.copy x z) = head 0x01 ++ [0xFF, 0xFF] ++ none4 ++ [0xFF, 0xFF] ++ triple x ++ none3 ++ triple z ∧
      bytes (.add x y z) = head 0x02 ++ [0xFF, 0xFF] ++ none4 ++ [0xFF, 0xFF] ++ triple x ++ triple y ++ triple z ∧
      bytes (.sub x y z) = head 0x03 ++ [0xFF, 0xFF] ++ none4 ++ [0xFF, 0xFF] ++ triple x ++ triple y ++ triple z ∧
      bytes (.mulq sh x y z) =
        head 0x04 ++ [0xFF, byteOfNat sh] ++ none4 ++ [0xFF, 0xFF] ++ triple x ++ triple y ++ triple z ∧
      bytes (.scale sh w x z) =
        head 0x05 ++ [0xFF, byteOfNat sh] ++ bytes32 w ++ [0xFF, 0xFF] ++ triple x ++ none3 ++ triple z ∧
      bytes (.offset w x z) = head 0x06 ++ [0xFF, 0xFF] ++ bytes32 w ++ [0xFF, 0xFF] ++ triple x ++ none3 ++ triple z ∧
      bytes (.dot sh x y z) =
        head 0x07 ++ [0xFF, byteOfNat sh] ++ none4 ++ [0xFF, 0xFF] ++ triple x ++ triple y ++ triple z ∧
      bytes (.fir taps sh x y z) =
        head 0x08 ++ [byteOfNat taps, byteOfNat sh] ++ none4 ++ [0xFF, 0xFF] ++ triple x ++ triple y ++ triple z ∧
      bytes (.firz taps sh x y z) =
        head 0x09 ++ [byteOfNat taps, byteOfNat sh] ++ none4 ++ [0xFF, 0xFF] ++ triple x ++ triple y ++ triple z ∧
      bytes (.cmp r mag x y z) =
        head 0x0A ++ [0xFF, 0xFF] ++ none4 ++ [relation r, yesNo mag] ++ triple x ++ triple y ++ triple z ∧
      bytes (.cmps r mag w x z) =
        head 0x0B ++ [0xFF, 0xFF] ++ bytes32 w ++ [relation r, yesNo mag] ++ triple x ++ none3 ++ triple z ∧
      bytes (.peak x z) = head 0x0C ++ [0xFF, 0xFF] ++ none4 ++ [0xFF, 0xFF] ++ triple x ++ none3 ++ triple z ∧
      bytes (.reverse x) = head 0x0D ++ [0xFF, 0xFF] ++ none4 ++ [0xFF, 0xFF] ++ triple x ++ none3 ++ none3) ∧
    (gateBytes none = 0x00 :: none4) ∧
    (∀ g : Gate, gateBytes (some g) =
      [0x01, match g.kind with | .nest => 0x00 | .queue => 0x01, index g.context, index g.level, yesNo g.linePermitted]) ∧
    ∀ n : Line, n.bytes =
      [yesNo n.config.enable, match n.config.source with | .pin => 0x00 | .timer => 0x01,
        match n.config.edge with | .rising => 0x00 | .falling => 0x01, index n.config.debounce, index n.config.validation,
        index n.config.priority, index n.config.gate, index n.config.report,
        match n.state with
        | .disabled => 0x00 | .listening => 0x01 | .debouncing => 0x02 | .validating => 0x03 | .pending => 0x04
        | .refused => 0x05,
        match n.lastRefusal with | none => 0x00 | some st => st.toByte,
        match n.lastStarted with | none => 0xFF | some c => index c]) ∧
  ∀ (p : PortId) (s : State), s.takes p →
    (∀ slot : Byte,
      (31 < slot.toNat → exec (.readContext p slot) s = .next (s.answer p 0x21 .param [])) ∧
      ∀ c : ContextId, slot.toNat = c.val →
        (s.ctx c = none → exec (.readContext p slot) s = .next (s.answer p 0x21 .ok
          ([0x00, 0xFF] ++ List.replicate 22 0xFF ++ [0xFF, 0xFF, 0x00, 0xFF, 0xFF] ++ List.replicate 8 0xFF ++
            [0x00, 0x00]))) ∧
        ∀ k, s.ctx c = some k →
          ∃ back : Byte,
            (∀ before d after, s.chain = before ++ c :: d :: after → c ∉ before → back = byteOfNat d.val) ∧
            (∀ before, s.chain = before ++ [c] → c ∉ before → back = 0xFF) ∧ (c ∉ s.chain → back = 0xFF) ∧
            exec (.readContext p slot) s = .next (s.answer p 0x21 .ok
              ([contextStateByte k.state, byteOfNat k.owner.val] ++ k.block.bytes ++
                [match k.startedBy with
                  | none => 0xFF | some (.port q) => byteOfNat q.val | some (.line l) => byteOfNat (0x10 + l.val),
                  back, if k.nested then 0x01 else 0x00] ++
                bytes16 (BitVec.ofNat 16 k.continuation.next) ++
                (match k.continuation.part with
                  | .plain => List.replicate 8 0x00
                  | .accumulator a => bytes64 a
                  | .hits h => bytes16 (BitVec.ofNat 16 h) ++ List.replicate 6 0x00
                  | .peak none => List.replicate 6 0xFF ++ [0x00, 0x00]
                  | .peak (some (v, i)) => bytes32 v ++ bytes16 (BitVec.ofNat 16 i) ++ [0x00, 0x00]) ++
                [byteOfNat ((if k.seen.high then 1 else 0) + if k.seen.low then 2 else 0),
                  match k.cause with
                  | none => 0x00 | some .store => 0x01 | some .satHigh => 0x02 | some .satLow => 0x03
                  | some .aborted => 0x04]))) ∧
    (∀ first count : Byte,
      (count.toNat < 1 ∨ 16 < count.toNat ∨ 64 < first.toNat + count.toNat →
        exec (.readGate p first count) s = .next (s.answer p 0x31 .param [])) ∧
      (1 ≤ count.toNat → count.toNat ≤ 16 → first.toNat + count.toNat ≤ 64 →
        ∃ rs : List Byte, exec (.readGate p first count) s = .next (s.answer p 0x31 .ok rs) ∧
          rs.length = 5 * count.toNat ∧
          ∀ (j : Nat) (g : GateId), j < count.toNat → g.val = first.toNat + j →
            (rs.drop (5 * j)).take 5 = gateBytes (s.gate g))) ∧
    exec (.readRun p) s = .next (s.answer p 0x43 .ok
      ((match s.chain with | [] => 0xFF | h :: _ => byteOfNat h.val) ::
        (byteOfNat s.chain.length :: s.chain.map (fun c => byteOfNat c.val) ++
          (byteOfNat s.ready.length :: s.ready.map fun c => byteOfNat c.val) ++
          byteOfNat s.heldSet.length :: s.heldSet.map fun c => byteOfNat c.val))) ∧
    (∃ rs : List Byte, exec (.readLines p) s = .next (s.answer p 0x52 .ok rs) ∧ rs.length = 94 ∧
      (∀ l : LineId, (rs.drop (11 * l.val)).take 11 = (s.line l).bytes) ∧
      (∀ l : LineId, ∃ b : Byte, rs[88]? = some b ∧ b.getLsbD l.val = decide (s.pins[l] = .high)) ∧
      rs.drop 89 = (if s.timer.running then 0x01 else 0x00) :: (bytes16 s.timer.reload ++ bytes16 s.timer.remaining)) ∧
    ∃ pages results : List Byte,
      pages.length = 8 ∧ (∀ g : PhysicalPage, ∃ b : Byte, pages[g.val / 8]? = some b ∧
        b.getLsbD (g.val % 8) = s.check.selected.getLsbD g.val) ∧
      results.length = 64 ∧ (∀ g : PhysicalPage, results[g.val]? = some
        (match s.check.results[g] with
          | none => 0x00 | some .pass => 0x01 | some .failPattern => 0x02 | some .failDecode => 0x03
          | some .skipped => 0x04 | some .notReached => 0x05)) ∧
      let steps : StepSet → Byte := fun t =>
        byteOfNat ((if t.reference then 1 else 0) + (if t.pattern then 2 else 0) + if t.decode then 4 else 0)
      exec (.readCheck p) s = .next (s.answer p 0x62 .ok
        (([match s.check.state with | .idle => 0x00 | .running => 0x01 | .ended => 0x02,
            match s.check.starter with | none => 0xFF | some q => byteOfNat q.val] : List Byte) ++ pages ++
          [steps s.check.steps,
            match s.check.reference with | none => 0x00 | some .pass => 0x01 | some .fail => 0x02,
            steps s.check.omitted] ++
          (match s.check.current with
            | .none => [0x00, 0xFF, 0xFF]
            | .reference => [0x01, 0xFF, 0xFF]
            | .page g => [0x02, byteOfNat g.val, 0xFF]
            | .pair g h => [0x03, byteOfNat g.val, byteOfNat h.val]) ++
          [if s.check.aborted then 0x01 else 0x00] ++ results))

/-- WRITE_GATE writes or removes one gate and gives one service pass, or is refused (R48, R49). -/
def Obligations.WriteGateWritesOneRecord : Prop :=
  ∀ (p : PortId) (gate : Byte) (present : Bool) (f : GateFields) (s : State), s.takes p →
    let run : Outcome := exec (.writeGate p gate present f) s
    let writes : GateId → Option Gate → Outcome := fun g record =>
      .next ((({ s with gates := update s.gates g record } : State).servicePass).answer p 0x30 .ok [])
    (s.level p ≠ 0 → run = .next (s.answer p 0x30 .denied [])) ∧
    (s.level p = 0 →
      (63 < gate.toNat → run = .next (s.answer p 0x30 .param [])) ∧
      ∀ g : GateId, gate.toNat = g.val →
        (present = false → run = writes g none) ∧
        (present = true →
          (1 < f.kind.toNat ∨ 31 < f.context.toNat ∨ 3 < f.level.toNat → run = .next (s.answer p 0x30 .param [])) ∧
          ∀ (c : ContextId) (level : Level), f.context.toNat = c.val → f.level.toNat = level.val →
            (f.kind = 0 → run = writes g (some ⟨.nest, c, level, f.linePermitted⟩)) ∧
            (f.kind = 1 → run = writes g (some ⟨.queue, c, level, f.linePermitted⟩))))

/-- INVOKE gives the refusal of the first failing one of the ten checks and changes nothing else; the span is that of
R41 (R24, R41, R52, R53, R54, R55, R56, R57, R58). -/
def Obligations.InvokeIsRefusedInOrder : Prop :=
  (∀ (p : PortId) (gate : Byte) (s : State), s.takes p →
    let refused : Status → Prop := fun st => exec (.invoke p gate) s = .next (s.answer p 0x32 st [])
    (63 < gate.toNat → refused .noGate) ∧
    ∀ x : GateId, gate.toNat = x.val →
      (s.gate x = none → refused .noGate) ∧
      ∀ g, s.gate x = some g →
        (g.level < s.level p → refused .denied) ∧
        (s.level p ≤ g.level →
          (s.ctx g.context = none → refused .noContext) ∧
          ∀ k, s.ctx g.context = some k →
            (k.state = .faulted → refused .ctxFaulted) ∧
            (k.state ∈ [.ready, .running, .preempted, .held] → refused .busy) ∧
            (k.state ∈ [.idle, .done] →
              (g.kind = .nest → 4 ≤ s.chain.length → refused .nestDepth) ∧
              (g.kind = .queue ∨ s.chain.length < 4 →
                (s.offline = true → refused .offline) ∧
                (s.offline = false →
                  (s.accessGiven k.owner k.block = false → refused .mapAccess) ∧
                  (s.accessGiven k.owner k.block = true →
                    ((∃ y ∈ s.span k.owner k.block, s.carriesFault y = true) → refused .pageFault) ∧
                    ((∀ y ∈ s.span k.owner k.block, s.carriesFault y = false) →
                      (∃ y ∈ s.span k.owner k.block, s.heldMark y = true) → refused .pageHeld))))))) ∧
    (∀ (n m sh : Nat) (w : Word) (r : Relation) (mag : Bool) (x y z : Descriptor), 1 ≤ m →
      let reads : Descriptor → Int → Nat → Operand := fun d first count => ⟨d, first, count, false⟩
      let writes : Descriptor → Nat → Operand := fun d count => ⟨d, 0, count, true⟩
      let operands : Operation → List Operand := fun op => op.operands n
      operands (.copy x z) = [reads x 0 n, writes z n] ∧ operands (.scale sh w x z) = [reads x 0 n, writes z n] ∧
      operands (.offset w x z) = [reads x 0 n, writes z n] ∧
      operands (.add x y z) = [reads x 0 n, reads y 0 n, writes z n] ∧
      operands (.sub x y z) = [reads x 0 n, reads y 0 n, writes z n] ∧
      operands (.mulq sh x y z) = [reads x 0 n, reads y 0 n, writes z n] ∧
      operands (.dot sh x y z) = [reads x 0 n, reads y 0 n, writes z 1] ∧
      operands (.fir m sh x y z) = [reads x (1 - m) (n + m - 1), reads y 0 m, writes z n] ∧
      operands (.firz m sh x y z) = [reads x 0 n, reads y 0 m, writes z n] ∧
      operands (.cmp r mag x y z) = [reads x 0 n, reads y 0 n, writes z (n + 1)] ∧
      operands (.cmps r mag w x z) = [reads x 0 n, writes z (n + 1)] ∧
      operands (.peak x z) = [reads x 0 n, writes z 2] ∧ operands (.reverse x) = [writes x n]) ∧
    ∀ (s : State) (owner : PortId) (b : Block), b.inRange = true →
      let reached : Operand → LogicalPage → Prop := fun o l =>
        ∃ j : Nat, j < o.count ∧
          (l.val * 256 : Int) ≤ o.descriptor.page.val * 256 + o.descriptor.offset.val + (o.first + j) * o.descriptor.step ∧
          (o.descriptor.page.val * 256 + o.descriptor.offset.val : Int) + (o.first + j) * o.descriptor.step <
            (l.val + 1) * 256
      (s.accessGiven owner b = true ↔
        ∀ o ∈ b.operation.operands b.count, ∀ l, reached o l →
          (o.writes = true → (s.entry owner l).access = .readWrite) ∧ (s.entry owner l).access ≠ .absent) ∧
      ∀ g, g ∈ s.span owner b ↔
        ∃ o ∈ b.operation.operands b.count, ∃ l, reached o l ∧ (s.entry owner l).page = g

/-- An INVOKE that passes its ten checks starts the context: RUNNING alone, READY behind a QUEUE gate, or nested (R52,
R60, R72, R73, R68). -/
def Obligations.InvokeAcceptsAndPlaces : Prop :=
  ∀ (p : PortId) (gate : Byte) (x : GateId) (g : Gate) (k : Context) (s : State), s.takes p →
    gate.toNat = x.val → s.gate x = some g → s.level p ≤ g.level → s.ctx g.context = some k →
    k.state ∈ [.idle, .done] → (g.kind = .queue ∨ s.chain.length < 4) → s.offline = false →
    s.accessGiven k.owner k.block = true → (∀ y ∈ s.span k.owner k.block, s.carriesFault y = false) →
    (∀ y ∈ s.span k.owner k.block, s.heldMark y = false) →
    let started : ContextState → Bool → Context := fun st nested =>
      { k with
        state := st, startedBy := some (.port p), nested := nested
        continuation := ⟨0, k.block.operation.initialPart⟩, seen := ⟨false, false⟩, cause := none }
    let answers : State → Byte → Prop := fun r state =>
      exec (.invoke p gate) s = .next (r.answer p 0x32 .ok [byteOfNat g.context.val, state])
    (s.chain = [] →
      answers { s with contexts := update s.contexts g.context (some (started .running false)), chain := [g.context] }
        0x03) ∧
    (s.chain ≠ [] → g.kind = .queue →
      ∃ before after, s.ready = before ++ after ∧ (∀ c ∈ before, k.block.priority.val ≤ s.priorityOf c) ∧
        (∀ c, after.head? = some c → s.priorityOf c < k.block.priority.val) ∧
        answers
          { s with
            contexts := update s.contexts g.context (some (started .ready false))
            ready := before ++ g.context :: after } 0x02) ∧
    ∀ h rest, s.chain = h :: rest → h ≠ g.context → g.kind = .nest →
      ∃ cs : Vector (Option Context) 32,
        answers { s with contexts := cs, chain := g.context :: s.chain } 0x03 ∧
        cs[g.context] = some (started .running true) ∧
        cs[h] = (s.ctx h).map (fun r => { r with state := .preempted }) ∧
        ∀ c, c ≠ g.context → c ≠ h → cs[c] = s.ctx c

/-- HOLD holds a READY context or a RUNNING one without back link; CHAINED and STATE otherwise (R77, R78, R79, R71,
R69). The ascending order of the held set is the model's choice (log entry 10). -/
def Obligations.HoldMovesAContextToTheHeldSet : Prop :=
  ∀ (p : PortId) (slot : Byte) (s : State), s.takes p →
    let run : Outcome := exec (.hold p slot) s
    (31 < slot.toNat → run = .next (s.answer p 0x40 .param [])) ∧
    ∀ c : ContextId, slot.toNat = c.val →
      (s.ctx c = none → run = .next (s.answer p 0x40 .noContext [])) ∧
      ∀ k, s.ctx c = some k →
        (k.owner ≠ p ∧ k.startedBy ≠ some (.port p) ∧ s.level p ≠ 0 → run = .next (s.answer p 0x40 .denied [])) ∧
        (k.owner = p ∨ k.startedBy = some (.port p) ∨ s.level p = 0 →
          (k.state ∈ [.held, .idle, .done, .faulted] → run = .next (s.answer p 0x40 .state [])) ∧
          (k.state = .preempted → run = .next (s.answer p 0x40 .chained [])) ∧
          (k.state = .running → ∀ b, s.backLink c = some b → run = .next (s.answer p 0x40 .chained [])) ∧
          (k.state = .ready ∨ (k.state = .running ∧ s.backLink c = none) →
            ∃ r : State,
              run = .next ((r.serviceIf (r.chain.length < s.chain.length)).answer p 0x40 .ok []) ∧
              r = { (({ s with contexts := update s.contexts c (some { k with state := .held, nested := false }) } :
                State).withdraw fun d => d = c) with heldSet := r.heldSet } ∧
              c ∈ r.heldSet ∧ (∀ d, d ≠ c → (d ∈ r.heldSet ↔ d ∈ s.heldSet)) ∧
              (s.heldSet.Pairwise (· < ·) → r.heldSet.Pairwise (· < ·))))

/-- RESUME of a HELD context makes it RUNNING when nothing runs and otherwise a new READY entry (R77, R80, R68). -/
def Obligations.ResumeContinuesAHeldContext : Prop :=
  ∀ (p : PortId) (slot : Byte) (s : State), s.takes p →
    let run : Outcome := exec (.resume p slot) s
    (31 < slot.toNat → run = .next (s.answer p 0x41 .param [])) ∧
    ∀ c : ContextId, slot.toNat = c.val →
      (s.ctx c = none → run = .next (s.answer p 0x41 .noContext [])) ∧
      ∀ k, s.ctx c = some k →
        (k.owner ≠ p ∧ k.startedBy ≠ some (.port p) ∧ s.level p ≠ 0 → run = .next (s.answer p 0x41 .denied [])) ∧
        (k.owner = p ∨ k.startedBy = some (.port p) ∨ s.level p = 0 →
          (k.state ≠ .held → run = .next (s.answer p 0x41 .state [])) ∧
          (k.state = .held → s.chain = [] →
            run = .next (({ s with
              heldSet := s.heldSet.filter fun d => d ≠ c, chain := [c]
              contexts := update s.contexts c (some { k with state := .running }) } : State).answer p 0x41 .ok [0x03])) ∧
          (k.state = .held → s.chain ≠ [] →
            ∃ before after, s.ready = before ++ after ∧ (∀ d ∈ before, k.block.priority.val ≤ s.priorityOf d) ∧
              (∀ d, after.head? = some d → s.priorityOf d < k.block.priority.val) ∧
              run = .next (({ s with
                heldSet := s.heldSet.filter fun d => d ≠ c, ready := before ++ c :: after
                contexts := update s.contexts c (some { k with state := .ready }) } :
                State).answer p 0x41 .ok [0x02])))

/-- ABORT makes an active context FAULTED with ABORTED, with its successor, notices and a service pass (R77, R81, R82,
R83, R84, R179, R71). -/
def Obligations.AbortFaultsAnActiveContext : Prop :=
  ∀ (p : PortId) (slot : Byte) (s : State), s.takes p →
    let run : Outcome := exec (.abort p slot) s
    (31 < slot.toNat → run = .next (s.answer p 0x42 .param [])) ∧
    ∀ c : ContextId, slot.toNat = c.val →
      (s.ctx c = none → run = .next (s.answer p 0x42 .noContext [])) ∧
      ∀ k, s.ctx c = some k →
        (k.owner ≠ p ∧ k.startedBy ≠ some (.port p) ∧ s.level p ≠ 0 → run = .next (s.answer p 0x42 .denied [])) ∧
        (k.owner = p ∨ k.startedBy = some (.port p) ∨ s.level p = 0 →
          (k.state ∈ [.idle, .done, .faulted] → run = .next (s.answer p 0x42 .state [])) ∧
          (k.state ∈ [.ready, .running, .preempted, .held] →
            ∃ r : State, run = .next (r.servicePass.answer p 0x42 .ok []) ∧
              r = { (({ s with contexts := update s.contexts c (some
                { k with state := .faulted, nested := false, cause := some .aborted }) } :
                State).withdraw fun d => d = c) with events := r.events } ∧
              ∀ q, r.eventsAt q =
                if q = k.owner ∨ k.startedBy = some (.port q) ∨
                    ∃ l, k.startedBy = some (.line l) ∧ (s.line l).config.report = q then
                  { s.eventsAt q with
                    completions := update (s.eventsAt q).completions c (some .faulted)
                    flags := (s.eventsAt q).flags ||| 0x03
                    attention := ((s.eventsAt q).flags ||| 0x03) &&& (s.eventsAt q).mask != 0 }
                else s.eventsAt q))

/-- CONFIG_LINE writes a line's whole configuration and drops its working state (R137, R138, R123). -/
def Obligations.ConfigLineRewritesALine : Prop :=
  ∀ (p : PortId) (line : Byte) (f : LineFields) (s : State), s.takes p →
    let run : Outcome := exec (.configLine p line f) s
    let bad : Prop := 7 < line.toNat ∨ 1 < f.source.toNat ∨ 1 < f.edge.toNat ∨ 63 < f.debounce.toNat ∨
      63 < f.validation.toNat ∨ 7 < f.priority.toNat ∨ 63 < f.gate.toNat ∨ 3 < f.report.toNat
    (1 < s.level p → run = .next (s.answer p 0x50 .denied [])) ∧
    (s.level p ≤ 1 → bad → run = .next (s.answer p 0x50 .param [])) ∧
    ∀ (l : LineId) (cfg : LineConfig), s.level p ≤ 1 → line.toNat = l.val → cfg.enable = f.enable →
      f.source = (if cfg.source = .pin then 0 else 1) → f.edge = (if cfg.edge = .rising then 0 else 1) →
      f.debounce.toNat = cfg.debounce.val → f.validation.toNat = cfg.validation.val →
      f.priority.toNat = cfg.priority.val → f.gate.toNat = cfg.gate.val → f.report.toNat = cfg.report.val →
      run = .next (((s.modLine l fun _ =>
        { config := cfg, state := if f.enable then .listening else .disabled, debounceTimer := none
          validationTimer := none, lastRefusal := none, lastStarted := none }) : State).answer p 0x50 .ok [])

/-- CLEAR_LINE returns a REFUSED line to LISTENING; SET_TIMER writes the reload and starts or stops the timer (R128,
R139, R141, R142). -/
def Obligations.ClearLineAndSetTimer : Prop :=
  (∀ (p : PortId) (line : Byte) (s : State), s.takes p →
      let run : Outcome := exec (.clearLine p line) s
      (7 < line.toNat → run = .next (s.answer p 0x51 .param [])) ∧
      ∀ l : LineId, line.toNat = l.val →
        (1 < s.level p ∧ (s.line l).config.report ≠ p → run = .next (s.answer p 0x51 .denied [])) ∧
        (s.level p ≤ 1 ∨ (s.line l).config.report = p →
          ((s.line l).state ≠ .refused → run = .next (s.answer p 0x51 .state [])) ∧
          ((s.line l).state = .refused →
            run = .next (((s.modLine l fun _ =>
              { s.line l with state := .listening, debounceTimer := none, validationTimer := none }) :
              State).answer p 0x51 .ok [])))) ∧
    (∀ (p : PortId) (reload : BitVec 16) (run : Bool) (s : State), s.takes p →
      (1 < s.level p → exec (.setTimer p reload run) s = .next (s.answer p 0x53 .denied [])) ∧
      (s.level p ≤ 1 → reload = 0 → exec (.setTimer p reload run) s = .next (s.answer p 0x53 .param [])) ∧
      (s.level p ≤ 1 → reload ≠ 0 → exec (.setTimer p reload run) s =
        .next (({ s with timer := ⟨run, reload, if run then reload else s.timer.remaining⟩ } : State).answer p 0x53 .ok [])))

/-- START_CHECK replaces the check record and marks the selected pages HELD, or ends at once while OFFLINE (R145, R146,
R152, R154). -/
def Obligations.StartCheckHoldsTheSelectedPages : Prop :=
  ∀ (p : PortId) (pages : PageSet) (q : StepRequest) (s : State), s.takes p →
    let run : Outcome := exec (.startCheck p pages q) s
    let inUse : Prop := ∃ g x l, pages.getLsbD g.val = true ∧ s.mapLocked x = true ∧
      (s.entry x l).page = g ∧ (s.entry x l).access ≠ .absent
    let record : CheckRecord :=
      { state := .running, starter := some p, selected := pages, steps := ⟨true, q.pattern, q.decode⟩
        reference := none, omitted := ⟨false, false, false⟩, current := .reference
        results := Vector.ofFn fun g : PhysicalPage => if pages.getLsbD g.val then some .notReached else none
        aborted := false }
    (1 < s.level p → run = .next (s.answer p 0x60 .denied [])) ∧
    (s.level p ≤ 1 → pages = 0 → run = .next (s.answer p 0x60 .param [])) ∧
    (s.level p ≤ 1 → pages ≠ 0 → s.check.state = .running → run = .next (s.answer p 0x60 .busy [])) ∧
    (s.level p ≤ 1 → pages ≠ 0 → s.check.state ≠ .running →
      (inUse → run = .next (s.answer p 0x60 .pageInUse [])) ∧
      (¬inUse → s.offline = false →
        ∃ marks : Vector Bool 64,
          run = .next (({ s with check := record, heldMarks := marks } : State).answer p 0x60 .ok []) ∧
          ∀ g : PhysicalPage, marks[g] = (s.heldMark g || pages.getLsbD g.val)) ∧
      (¬inUse → s.offline = true →
        ∃ r : State, run = .next (r.servicePass.answer p 0x60 .ok []) ∧
          r = { s with check := r.check, heldMarks := r.heldMarks, events := r.events } ∧
          r.check = { record with state := .ended, current := .none, omitted := ⟨true, q.pattern, q.decode⟩ } ∧
          (∀ g, r.heldMark g = (s.heldMark g && !pages.getLsbD g.val)) ∧
          ∀ x, r.eventsAt x = if x = p then (s.eventsAt x).raise flagCheck else s.eventsAt x))

/-- ABORT_CHECK ends the running check as aborted and zero-fills the pages of its test (R155, R152, R154). -/
def Obligations.AbortCheckEndsTheRunningCheck : Prop :=
  ∀ (p : PortId) (s : State), s.takes p →
    let run : Outcome := exec (.abortCheck p) s
    let tested : Nat → Prop := fun a =>
      (∃ g, s.check.current = .page g ∧ inPage g a = true) ∨
        ∃ g h, s.check.current = .pair g h ∧ (inPage g a = true ∨ inPage h a = true)
    let failedAndMapped : PortId → Prop := fun q =>
      ∃ g l, s.check.results[g] ∈ [some PageResult.failPattern, some PageResult.failDecode] ∧
        (s.entry q l).page = g ∧ (s.entry q l).access ≠ .absent
    (1 < s.level p → run = .next (s.answer p 0x61 .denied [])) ∧
    (s.level p ≤ 1 → s.check.state ≠ .running → run = .next (s.answer p 0x61 .state [])) ∧
    (s.level p ≤ 1 → s.check.state = .running →
      ∃ r : State, run = .next (r.servicePass.answer p 0x61 .ok []) ∧
        r = { s with words := r.words, check := r.check, heldMarks := r.heldMarks, events := r.events } ∧
        (∀ a, (tested a → r.words.read a = 0) ∧ (¬tested a → r.words.read a = s.words.read a)) ∧
        r.check = { s.check with state := .ended, aborted := true, omitted := r.check.omitted } ∧
        (r.check.omitted.reference = true ↔ s.check.current = .none ∧ s.check.steps.reference = true) ∧
        (r.check.omitted.pattern = true ↔
          (s.check.current = .none ∨ s.check.current = .reference) ∧ s.check.steps.pattern = true) ∧
        (r.check.omitted.decode = true ↔ (∀ g h, s.check.current ≠ .pair g h) ∧ s.check.steps.decode = true) ∧
        (∀ g, r.heldMark g = (s.heldMark g && !s.check.selected.getLsbD g.val)) ∧
        ∀ q,
          let checked : PortEvents := if s.check.starter = some q then (s.eventsAt q).raise flagCheck else s.eventsAt q
          (failedAndMapped q → r.eventsAt q = checked.raise flagPage) ∧
            (¬failedAndMapped q → r.eventsAt q = checked))

/-- READ_EVENTS returns flags, mask and count; SET_ATTENTION replaces the mask and the output agrees (R182, R183). -/
def Obligations.ReadEventsAndSetAttention : Prop :=
  (∀ (p : PortId) (s : State), s.takes p →
      let entries : Nat := ((List.finRange 32).filter fun c => ((s.eventsAt p).completions[c]).isSome).length
      entries ≤ 32 ∧
        exec (.readEvents p) s = .next (s.answer p 0x70 .ok
          [BitVec.ofNat 8 (s.eventsAt p).flags.toNat, BitVec.ofNat 8 (s.eventsAt p).mask.toNat, BitVec.ofNat 8 entries])) ∧
    (∀ (p : PortId) (mask : Byte) (s : State), s.takes p →
      (63 < mask.toNat → exec (.setAttention p mask) s = .next (s.answer p 0x72 .param [])) ∧
      ∀ m : FlagSet, mask.toNat = m.toNat →
        exec (.setAttention p mask) s = .next (((s.modEvents p fun _ =>
          { s.eventsAt p with mask := m, attention := (s.eventsAt p).flags &&& m != 0 }) : State).answer p 0x72 .ok
            [BitVec.ofNat 8 (s.eventsAt p).flags.toNat]))

/-- CLEAR_EVENTS clears the named flags; READ_COMPLETIONS returns and empties the completion set (R184, R185, R181). -/
def Obligations.ClearEventsAndReadCompletionsClearFlags : Prop :=
  ∀ (p : PortId) (s : State), s.takes p →
    (∀ flags : Byte,
      (63 < flags.toNat → exec (.clearEvents p flags) s = .next (s.answer p 0x71 .param [])) ∧
      ∀ f : FlagSet, flags.toNat = f.toNat →
        exec (.clearEvents p flags) s = .next (((s.modEvents p fun _ =>
          { s.eventsAt p with
            flags := (s.eventsAt p).flags &&& ~~~f
            attention := (s.eventsAt p).flags &&& ~~~f &&& (s.eventsAt p).mask != 0 }) : State).answer p 0x71 .ok
            [BitVec.ofNat 8 ((s.eventsAt p).flags &&& ~~~f).toNat])) ∧
    ∃ entries : List (ContextId × Ending),
      (∀ c o, (c, o) ∈ entries ↔ (s.eventsAt p).completions[c] = some o) ∧
      entries.Pairwise (fun x y => x.1 < y.1) ∧
      exec (.readCompletions p) s = .next (((s.modEvents p fun _ =>
        { flags := (s.eventsAt p).flags &&& 0x3E, mask := (s.eventsAt p).mask, completions := Vector.replicate 32 none
          attention := (s.eventsAt p).flags &&& 0x3E &&& (s.eventsAt p).mask != 0 }) : State).answer p 0x73 .ok
          (BitVec.ofNat 8 entries.length ::
            entries.flatMap fun e => [BitVec.ofNat 8 e.1.val, if e.2 = .done then 0x00 else 0x01]))

/-- SELECT opens a select period, DESELECT ends it, and the receive timer's expiry discards the frame (R163, R164, R165,
R168). The idle select and deselect, their effect in every phase and the stored period are the model's (log entries
2, 3, 13). -/
def Obligations.SelectDeselectAndReceiveTimer : Prop :=
  (∀ (p : PortId) (s : State),
      ((s.port p).selected = false → exec (.select p) s =
        .next (s.modPort p fun _ =>
          { s.port p with
            selected := true, period := .open, outgoing := (s.port p).response.map fun r => ⟨r, 0, true⟩ })) ∧
      ((s.port p).selected = true → exec (.deselect p) s =
        .next (s.modPort p fun _ =>
          { s.port p with
            selected := false, period := .open, receive := .waitLength, receiveTimer := none, outgoing := none })) ∧
      ((s.port p).selected = true → exec (.select p) s = .next s) ∧
      ((s.port p).selected = false → exec (.deselect p) s = .next s)) ∧
    (∀ (p : PortId) (s : State) (L : Nat) (bytes : List Byte) (ms : Nat), s.phase = .operating →
      (s.port p).receive = .receiving L bytes → (s.port p).receiveTimer = some ms →
      exec (.receiveTimerExpiry p) s = .next (s.modPort p fun _ =>
        { s.port p with receive := .discarding, receiveTimer := none }))

/-- Each byte exchange shifts out the next byte of the outgoing response, and the last consumes it (R163, R168, R177). -/
def Obligations.ByteExchangeShiftsOutTheResponse : Prop :=
  ∀ (p : PortId) (b : Byte) (s : State), (s.port p).selected = true →
    (s.phase ≠ .operating → exec (.byteExchange p b) s =
      .next { s with ports := update s.ports p { s.port p with dataOut := 0x00 } }) ∧
    (s.phase = .operating →
      ((s.port p).receive = .waitLength ∧ ((s.port p).period = .closed ∨ b = 0x00)) ∨ (s.port p).receive = .discarding →
      ((s.port p).outgoing = none → exec (.byteExchange p b) s =
        .next { s with ports := update s.ports p { s.port p with dataOut := 0x00 } }) ∧
      ∀ o, (s.port p).outgoing = some o → exec (.byteExchange p b) s =
        .next (s.modPort p fun _ =>
          { s.port p with
            dataOut := o.response.frame.getD o.sent 0x00
            response := if o.sent + 1 = o.response.frame.length ∧ o.stillPending = true then none
              else (s.port p).response
            outgoing := some ⟨o.response, o.sent + 1,
              if o.sent + 1 = o.response.frame.length then false else o.stillPending⟩ }))

/-- A length byte begins a frame, a bad one is answered LENGTH, and each further byte is added (R163, R164, R165, R168). -/
def Obligations.ByteExchangeAssemblesAFrame : Prop :=
  ∀ (p : PortId) (b : Byte) (s : State), (s.port p).selected = true → s.phase = .operating →
    let quiet : Port :=
      match (s.port p).outgoing with
      | none => { s.port p with dataOut := 0x00 }
      | some o =>
        { s.port p with
          dataOut := o.response.frame.getD o.sent 0x00
          response := if o.sent + 1 = o.response.frame.length ∧ o.stillPending = true then none else (s.port p).response
          outgoing := some ⟨o.response, o.sent + 1,
            if o.sent + 1 = o.response.frame.length then false else o.stillPending⟩ }
    ((s.port p).receive = .waitLength → (s.port p).period = .open →
      (3 ≤ b.toNat → exec (.byteExchange p b) s =
        .next (s.modPort p fun _ =>
          { quiet with
            receive := .receiving b.toNat [b]
            receiveTimer := if (s.port p).timeout = 0 then none else some (s.port p).timeout.toNat })) ∧
      (b = 0x01 ∨ b = 0x02 → exec (.byteExchange p b) s =
        .next (s.modPort p fun _ =>
          { quiet with
            receive := .discarding, response := some ⟨0x00, .length, []⟩
            outgoing := quiet.outgoing.map fun o => ⟨o.response, o.sent, false⟩ }))) ∧
    ∀ L bytes, (s.port p).receive = .receiving L bytes → bytes.length + 1 ≠ L → exec (.byteExchange p b) s =
      .next { s with ports := update s.ports p { quiet with receive := .receiving L (bytes ++ [b]) } }

/-- The byte that completes a frame has it taken, answered with a failed test, or kept or discarded during a data run
(R164, R166, R14, R167, R168). -/
def Obligations.LastByteCompletesTheFrame : Prop :=
  ∀ (p : PortId) (b : Byte) (s : State) (L : Nat) (bytes : List Byte), (s.port p).selected = true →
    s.phase = .operating → (s.port p).receive = .receiving L bytes → bytes.length + 1 = L →
    let quiet : Port :=
      match (s.port p).outgoing with
      | none => { s.port p with dataOut := 0x00 }
      | some o =>
        { s.port p with
          dataOut := o.response.frame.getD o.sent 0x00
          response := if o.sent + 1 = o.response.frame.length ∧ o.stillPending = true then none else (s.port p).response
          outgoing := some ⟨o.response, o.sent + 1,
            if o.sent + 1 = o.response.frame.length then false else o.stillPending⟩ }
    let frame : List Byte := bytes ++ [b]
    let settled : State := (s.modPort p fun _ =>
      { quiet with receive := .waitLength, receiveTimer := none, period := .closed })
    ((s.port p).run ≠ none →
      ((s.port p).kept = none → exec (.byteExchange p b) s =
        .next (settled.modPort p fun pt => { pt with kept := some frame })) ∧
      ((s.port p).kept ≠ none → exec (.byteExchange p b) s = .next settled)) ∧
    ((s.port p).run = none →
      (crc8 frame ≠ 0 → exec (.byteExchange p b) s = .next (settled.answer p (frame.getD 1 0) .checksum [])) ∧
      (crc8 frame = 0 →
        (∀ st, readCommand p (frame.getD 1 0) (frame.drop 2).dropLast = .error st →
          exec (.byteExchange p b) s = .next (settled.answer p (frame.getD 1 0) st [])) ∧
        ∀ i, readCommand p (frame.getD 1 0) (frame.drop 2).dropLast = .ok i →
          exec (.byteExchange p b) s = exec i settled) ∧
      ∀ i : Instr, i.wellFormed = true → i.commandPort = some p → frame = encodeFrame i →
        exec (.byteExchange p b) s = exec i settled)

/-- An element step below the last writes its results through the owner's map and advances n (R66, R90, R92, R93, R94,
R102). -/
def Obligations.ElementStepWritesAndAdvances : Prop :=
  (∀ (s : State) (c : ContextId) (k : Context) (rest : List ContextId), s.phase = .operating → StoreCanonical s →
      s.chain = c :: rest → s.ctx c = some k → s.offline = false →
      (∀ g ∈ s.span k.owner k.block, s.carriesFault g = false) →
      let n : Nat := k.continuation.next
      let result : StepResult := k.block.operation.results k.block.count n k.continuation.part
        fun a => s.words.read (s.physical k.owner a)
      (∀ x ∈ result.sats, satIn k.block.mask x = false) → n + 1 < k.block.count →
      ∃ m : Memory,
        exec (.elementStep none) s = .next { s with
          words := m
          contexts := update s.contexts c (some
            { k with
              continuation := ⟨n + 1, result.part⟩
              seen := ⟨k.seen.high || result.sats.contains .high, k.seen.low || result.sats.contains .low⟩ }) } ∧
        (∀ a, (∀ w ∈ result.writes, s.physical k.owner w.1 ≠ a) → m.read a = s.words.read a) ∧
        ∀ before w after, result.writes = before ++ w :: after →
          (∀ v ∈ after, s.physical k.owner v.1 ≠ s.physical k.owner w.1) → m.read (s.physical k.owner w.1) = w.2) ∧
    (∀ (s : State) (i : Option Nat), s.chain = [] → exec (.elementStep i) s = .next s)

/-- The step for index N-1 makes the context DONE, runs the successor, posts the notices and gives a service pass (R93,
R96, R75, R71, R179, R180). -/
def Obligations.LastElementStepCompletesTheContext : Prop :=
  ∀ (s : State) (c : ContextId) (k : Context) (rest : List ContextId), s.phase = .operating →
    s.chain = c :: rest → s.ctx c = some k → s.offline = false →
    (∀ g ∈ s.span k.owner k.block, s.carriesFault g = false) →
    let n : Nat := k.continuation.next
    let result : StepResult := k.block.operation.results k.block.count n k.continuation.part
      fun a => s.words.read (s.physical k.owner a)
    (∀ x ∈ result.sats, satIn k.block.mask x = false) → n + 1 = k.block.count →
    ∃ r : State, exec (.elementStep none) s = .next r.servicePass ∧
      r = { (({ s with
          words := s.words.writeAll (result.writes.map fun w => (s.physical k.owner w.1, w.2))
          contexts := update s.contexts c (some
            { k with
              state := .done, nested := false, continuation := ⟨k.block.count, result.part⟩, cause := none
              seen := ⟨k.seen.high || result.sats.contains .high, k.seen.low || result.sats.contains .low⟩ }) } :
        State).withdraw fun d => d = c) with events := r.events } ∧
      ∀ q, r.eventsAt q =
        if q = k.owner ∨ k.startedBy = some (.port q) ∨
            ∃ l, k.startedBy = some (.line l) ∧ (s.line l).config.report = q then
          { s.eventsAt q with
            completions := update (s.eventsAt q).completions c (some .done)
            flags := (s.eventsAt q).flags ||| 0x01
            attention := ((s.eventsAt q).flags ||| 0x01) &&& (s.eventsAt q).mask != 0 }
        else s.eventsAt q

/-- A step that faults makes its context FAULTED with its cause and writes no word (R93, R94, R95, R97, R102, R17, R19,
R179, R180). -/
def Obligations.FaultingElementStepWritesNothing : Prop :=
  ∀ (s : State) (c : ContextId) (k : Context) (rest : List ContextId), s.phase = .operating →
    s.chain = c :: rest → s.ctx c = some k →
    let n : Nat := k.continuation.next
    let result : StepResult := k.block.operation.results k.block.count n k.continuation.part
      fun a => s.words.read (s.physical k.owner a)
    let reads : List LogicalAddress := k.block.operation.reads k.block.count n
    let storeGood : Prop := s.offline = false ∧ ∀ g ∈ s.span k.owner k.block, s.carriesFault g = false
    (∀ i, ¬storeGood → exec (.elementStep i) s = .next (s.faultContext c .store)) ∧
    (storeGood → ∀ i a, reads[i]? = some a →
      exec (.elementStep (some i)) s =
        .next ((s.wordCheckFailure (s.entryFor k.owner a).page).faultContext c .store)) ∧
    (storeGood → ∀ i x, (i = none ∨ ∃ j, i = some j ∧ reads.length ≤ j) →
      (∃ before after, result.sats = before ++ x :: after ∧ satIn k.block.mask x = true ∧
        ∀ y ∈ before, satIn k.block.mask y = false) →
      exec (.elementStep i) s = .next (s.faultContext c (if x = .high then .satHigh else .satLow))) ∧
    ∀ (t : State) (cause : FaultCause), t.ctx c = some k →
      (t.faultContext c cause).words = t.words ∧ (t.faultContext c cause).faults = t.faults ∧
      ∃ r : State, t.faultContext c cause = r.servicePass ∧
        r.ctx c = some { k with state := .faulted, nested := false, cause := some cause } ∧
        r = { (({ t with contexts := update t.contexts c (some
            { k with state := .faulted, nested := false, cause := some cause }) } :
          State).withdraw fun d => d = c) with events := r.events } ∧
        ∀ q, r.eventsAt q =
          if q = k.owner ∨ k.startedBy = some (.port q) ∨
              ∃ l, k.startedBy = some (.line l) ∧ (t.line l).config.report = q then
            { t.eventsAt q with
              completions := update (t.eventsAt q).completions c (some .faulted)
              flags := (t.eventsAt q).flags ||| 0x03
              attention := ((t.eventsAt q).flags ||| 0x03) &&& (t.eventsAt q).mask != 0 }
          else t.eventsAt q

/-- Shifts round down, saturation takes the nearest bound with its kind, and bit reversal mirrors the bits (R99, R100,
R101, R120, R121). -/
def Obligations.ShiftsSaturationAndBitReversal : Prop :=
  ((∀ (v : Int) (k : Nat), shiftRight v k * 2 ^ k ≤ v ∧ v < (shiftRight v k + 1) * 2 ^ k) ∧
      (∀ v : Int,
        (2147483647 < v → saturate32 v = (2147483647, [.high])) ∧ (v < -2147483648 → saturate32 v = (-2147483648, [.low])) ∧
        (-2147483648 ≤ v → v ≤ 2147483647 → saturate32 v = (v, []))) ∧
      (∀ v : Int,
        (9223372036854775807 < v → saturate64 v = (9223372036854775807, [.high])) ∧
        (v < -9223372036854775808 → saturate64 v = (-9223372036854775808, [.low])) ∧
        (-9223372036854775808 ≤ v → v ≤ 9223372036854775807 → saturate64 v = (v, []))) ∧
      ∀ (start t : Int) (ts : List Int),
        (-9223372036854775808 ≤ start → start ≤ 9223372036854775807 →
          -9223372036854775808 ≤ (sum64 start ts).1 ∧ (sum64 start ts).1 ≤ 9223372036854775807) ∧
        sum64 start [] = (start, []) ∧
        sum64 start (ts ++ [t]) =
          ((saturate64 ((sum64 start ts).1 + t)).1, (sum64 start ts).2 ++ (saturate64 ((sum64 start ts).1 + t)).2)) ∧
    ((∀ b n i : Nat, i < b → (bitReverse b n).testBit i = n.testBit (b - 1 - i)) ∧
      (∀ b n : Nat, bitReverse b n < 2 ^ b) ∧
      (∀ b n : Nat, n < 2 ^ b → bitReverse b (bitReverse b n) = n) ∧
      ∀ count ∈ reverseCounts, 2 ^ indexBits count = count)

/-- What the step at index n of each of the thirteen array operations reads, writes and records (R104, R105, R106, R107,
R108, R109, R111, R112, R115, R116, R118, R120). -/
def Obligations.ArrayOperationsWriteTheirResults : Prop :=
  (∀ a b : Int,
      (Relation.lt.holds a b = true ↔ a < b) ∧ (Relation.le.holds a b = true ↔ a ≤ b) ∧
      (Relation.eq.holds a b = true ↔ a = b) ∧ (Relation.ne.holds a b = true ↔ a ≠ b) ∧
      (Relation.gt.holds a b = true ↔ a > b) ∧ (Relation.ge.holds a b = true ↔ a ≥ b)) ∧
  ∀ (count n : Nat) (part : OpPart) (read : LogicalAddress → Word) (x y z : Descriptor) (w : Word) (sh taps : Nat)
    (rel : Relation) (mag : Bool),
    let at' : Descriptor → Int → Int := fun d j => (read (d.address j)).toInt
    let asWord : LogicalAddress → Int → StepResult := fun a v =>
      ⟨[(a, BitVec.ofInt 32 (saturate32 v).1)], (saturate32 v).2, part⟩
    let filtered : List Int → StepResult := fun terms =>
      let sum := sum64 0 terms
      let out := saturate32 (shiftRight sum.1 sh)
      ⟨[(z.address n, BitVec.ofInt 32 out.1)], sum.2 ++ out.2, part⟩
    let results : Operation → StepResult := fun op => op.results count n part read
    let reads : Operation → List LogicalAddress := fun op => op.reads count n
    let size : Int → Int := fun v => if mag then |v| else v
    (reads (.copy x z) = [x.address n] ∧ results (.copy x z) = ⟨[(z.address n, read (x.address n))], [], part⟩) ∧
    (reads (.add x y z) = [x.address n, y.address n] ∧
      results (.add x y z) = asWord (z.address n) (at' x n + at' y n)) ∧
    (reads (.sub x y z) = [x.address n, y.address n] ∧
      results (.sub x y z) = asWord (z.address n) (at' x n - at' y n)) ∧
    (reads (.mulq sh x y z) = [x.address n, y.address n] ∧
      results (.mulq sh x y z) = asWord (z.address n) (shiftRight (at' x n * at' y n) sh)) ∧
    (reads (.scale sh w x z) = [x.address n] ∧
      results (.scale sh w x z) = asWord (z.address n) (shiftRight (at' x n * w.toInt) sh)) ∧
    (reads (.offset w x z) = [x.address n] ∧ results (.offset w x z) = asWord (z.address n) (at' x n + w.toInt)) ∧
    (∀ acc : BitVec 64, part = .accumulator acc →
      let sum := saturate64 (acc.toInt + at' x n * at' y n)
      let out := saturate32 (shiftRight sum.1 sh)
      reads (.dot sh x y z) = [x.address n, y.address n] ∧
      (results (.dot sh x y z)).part = .accumulator (BitVec.ofInt 64 sum.1) ∧
      (n + 1 ≠ count → (results (.dot sh x y z)).writes = [] ∧ (results (.dot sh x y z)).sats = sum.2) ∧
      (n + 1 = count → (results (.dot sh x y z)).writes = [(z.address 0, BitVec.ofInt 32 out.1)] ∧
        (results (.dot sh x y z)).sats = sum.2 ++ out.2)) ∧
    (reads (.fir taps sh x y z) =
        (List.range taps).map (fun m : Nat => x.address ((n : Int) - m)) ++
          (List.range taps).map (fun m : Nat => y.address m) ∧
      results (.fir taps sh x y z) = filtered ((List.range taps).map fun m : Nat => at' x ((n : Int) - m) * at' y m)) ∧
    (1 ≤ taps →
      reads (.firz taps sh x y z) =
        (List.range (min n (taps - 1) + 1)).map (fun m : Nat => x.address ((n : Int) - m)) ++
          (List.range taps).map (fun m : Nat => y.address m) ∧
      results (.firz taps sh x y z) =
        filtered ((List.range (min n (taps - 1) + 1)).map fun m : Nat => at' x ((n : Int) - m) * at' y m)) ∧
    (∀ h hit, part = .hits h →
      let h' := if hit then h + 1 else h
      let compared : StepResult :=
        ⟨(if hit then [(z.address ((1 + h : Nat) : Int), BitVec.ofNat 32 n)] else []) ++
          (if n + 1 = count then [(z.address 0, BitVec.ofNat 32 h')] else []), [], .hits h'⟩
      (hit = rel.holds (size (at' x n)) (size (at' y n)) → reads (.cmp rel mag x y z) = [x.address n, y.address n] ∧
        results (.cmp rel mag x y z) = compared) ∧
      (hit = rel.holds (size (at' x n)) (size w.toInt) → reads (.cmps rel mag w x z) = [x.address n] ∧
        results (.cmps rel mag w x z) = compared)) ∧
    (∀ best : Option (Word × Nat), part = .peak best →
      let kept : Word × Nat :=
        match best with
        | none => (read (x.address n), n)
        | some (v, i) => if |v.toInt| < |at' x n| then (read (x.address n), n) else (v, i)
      reads (.peak x z) = [x.address n] ∧
      results (.peak x z) =
        ⟨if n + 1 = count then [(z.address 0, kept.1), (z.address 1, BitVec.ofNat 32 kept.2)] else [], [],
          .peak (some kept)⟩) ∧
    let r : Nat := bitReverse (indexBits count) n
    (n < r → reads (.reverse x) = [x.address n, x.address r] ∧
      results (.reverse x) = ⟨[(x.address n, read (x.address r)), (x.address r, read (x.address n))], [], part⟩) ∧
    (r ≤ n → reads (.reverse x) = [] ∧ results (.reverse x) = ⟨[], [], part⟩)

/-- What a change of a pin does to its line, by the line's source and state (R124, R125, R127, R128, R129). -/
def Obligations.PinChangesQualifyALine : Prop :=
  ∀ (l : LineId) (level : PinLevel) (s : State), s.phase = .operating → s.pins[l] ≠ level →
    let run : Outcome := exec (.pinLevelChange l level) s
    let n : Line := s.line l
    let active : Prop := level = if n.config.edge = .rising then .high else .low
    let becomes : Line → State := fun n' => { s with pins := update s.pins l level, lines := update s.lines l n' }
    (n.config.source = .pin → n.state = .listening → active →
      (n.config.debounce ≠ 0 →
        run = .next (becomes { n with state := .debouncing, debounceTimer := some n.config.debounce.val })) ∧
      (n.config.debounce = 0 → n.config.validation ≠ 0 → run = .next (becomes
        { n with state := .validating, debounceTimer := none, validationTimer := some n.config.validation.val })) ∧
      (n.config.debounce = 0 → n.config.validation = 0 → run = .next (becomes
        { n with state := .pending, debounceTimer := none, validationTimer := none }).servicePass)) ∧
    (n.config.source = .pin → n.state = .validating → ¬active → run = .next (becomes
      { n with state := .listening, debounceTimer := none, validationTimer := none })) ∧
    (n.config.source = .timer ∨ n.state ∈ [.disabled, .debouncing, .pending, .refused] ∨
        (n.state = .listening ∧ ¬active) ∨ (n.state = .validating ∧ active) →
      run = .next { s with pins := update s.pins l level })

/-- Where the expiries of the debounce and validation timers move their line (R126, R127, R130). -/
def Obligations.QualificationTimersMoveTheirLine : Prop :=
  ∀ (l : LineId) (s : State), s.phase = .operating →
    let n : Line := s.line l
    let active : Prop := s.pins[l] = if n.config.edge = .rising then .high else .low
    let becomes : Line → State := fun n' => { s with lines := update s.lines l n' }
    let pending : State := becomes { n with state := .pending, debounceTimer := none, validationTimer := none }
    (n.state = .debouncing →
      (¬active → exec (.debounceExpiry l) s = .next (becomes
        { n with state := .listening, debounceTimer := none, validationTimer := none })) ∧
      (active → n.config.validation ≠ 0 → exec (.debounceExpiry l) s = .next (becomes
        { n with state := .validating, debounceTimer := none, validationTimer := some n.config.validation.val })) ∧
      (active → n.config.validation = 0 → exec (.debounceExpiry l) s = .next pending.servicePass)) ∧
    (n.state = .validating → exec (.validationExpiry l) s = .next pending.servicePass) ∧
    (n.state ≠ .debouncing → exec (.debounceExpiry l) s = .next s) ∧
    (n.state ≠ .validating → exec (.validationExpiry l) s = .next s)

/-- An expiry of the interval timer reloads it and makes the TIMER lines in LISTENING PENDING (R129, R130, R141). -/
def Obligations.IntervalTimerExpiresAndCounts : Prop :=
  ∀ s : State, s.phase = .operating →
    let takes : LineId → Prop := fun l =>
      (s.line l).config.enable = true ∧ (s.line l).config.source = .timer ∧ (s.line l).state = .listening
    (s.timer.running = false → exec .intervalTimerExpiry s = .next s ∧ exec .remainingCountFalls s = .next s) ∧
    (s.timer.running = true →
      (1 < s.timer.remaining.toNat → exec .remainingCountFalls s =
        .next { s with timer := ⟨true, s.timer.reload, s.timer.remaining - 1⟩ }) ∧
      ∃ r : State, r = { s with timer := ⟨true, s.timer.reload, s.timer.reload⟩, lines := r.lines } ∧
        (∀ l, (takes l → r.line l = { s.line l with state := .pending }) ∧ (¬takes l → r.line l = s.line l)) ∧
        ((∃ l, takes l) → exec .intervalTimerExpiry s = .next r.servicePass) ∧
        ((∀ l, ¬takes l) → exec .intervalTimerExpiry s = .next r) ∧
        (s.timer.remaining.toNat = 1 → exec .remainingCountFalls s = exec .intervalTimerExpiry s))

/-- A service pass serves the PENDING lines once each, by priority and line number, each on what the last left (R47,
R53, R54, R130, R131, R132, R133, R134). -/
def Obligations.ServicePassServesLinesInOrder : Prop :=
  (∀ s : State, s.servicePass = s.pendingLines.foldl State.serveLine s ∧
    (∀ l, l ∈ s.pendingLines ↔ (s.line l).state = .pending) ∧
    s.pendingLines.Pairwise fun l m =>
      (s.line m).config.priority < (s.line l).config.priority ∨
        ((s.line m).config.priority = (s.line l).config.priority ∧ l < m)) ∧
  (∀ (s : State) (l : LineId),
    let outcome := s.checkInvocation (s.gate (s.line l).config.gate) (.line l)
    (∀ g, outcome = .ok g → s.serveLine l =
      ((s.accept g.context g.kind (.line l)).modLine l fun n =>
        { n with
          state := .listening, debounceTimer := none, validationTimer := none, lastRefusal := none
          lastStarted := some g.context })) ∧
    ∀ code, outcome = .error code →
      (code ∈ [.busy, .nestDepth, .pageHeld] →
        s.serveLine l = s.modLine l fun n => { n with lastRefusal := some code }) ∧
      (code ∉ [.busy, .nestDepth, .pageHeld] →
        s.serveLine l =
          (s.modLine l fun n => { n with state := .refused, lastRefusal := some code }).modEvents
            (s.line l).config.report fun e => e.raise flagTrigger)) ∧
  ∀ (s : State) (l : LineId),
    s.checkInvocation none (.line l) = .error .noGate ∧
    ∀ g : Gate,
      let answers : Except Status Gate → Prop := fun e => s.checkInvocation (some g) (.line l) = e
      (g.linePermitted = false → answers (.error .denied)) ∧
      (g.linePermitted = true →
        (s.ctx g.context = none → answers (.error .noContext)) ∧
        ∀ k, s.ctx g.context = some k →
          (k.state = .faulted → answers (.error .ctxFaulted)) ∧
          (k.state ∈ [.ready, .running, .preempted, .held] → answers (.error .busy)) ∧
          (k.state ∈ [.idle, .done] →
            (g.kind = .nest → 4 ≤ s.chain.length → answers (.error .nestDepth)) ∧
            (g.kind = .queue ∨ s.chain.length < 4 →
              (s.offline = true → answers (.error .offline)) ∧
              (s.offline = false →
                (s.accessGiven k.owner k.block = false → answers (.error .mapAccess)) ∧
                (s.accessGiven k.owner k.block = true →
                  ((∃ y ∈ s.span k.owner k.block, s.carriesFault y = true) → answers (.error .pageFault)) ∧
                  ((∀ y ∈ s.span k.owner k.block, s.carriesFault y = false) →
                    ((∃ y ∈ s.span k.owner k.block, s.heldMark y = true) → answers (.error .pageHeld)) ∧
                    ((∀ y ∈ s.span k.owner k.block, s.heldMark y = false) → answers (.ok g))))))))

/-- A passed reference test begins the next step; a failed one sets OFFLINE and ends the check (R148, R149, R4, R151,
R154). -/
def Obligations.ReferenceTestSettlesTheNextStep : Prop :=
  (∀ s : State, s.phase = .operating →
    (s.check.state = .running → s.check.current = .reference →
      exec (.referenceTestComplete .fail) s = .next
        (({ s with
            offline := true
            check := { s.check with
              reference := some .fail, omitted := ⟨false, s.check.steps.pattern, s.check.steps.decode⟩ } } :
          State).raiseAt (fun _ => true) flagOffline).endCheck ∧
      ∃ r : State,
        r = { s with check := { s.check with reference := some .pass, results := r.check.results } } ∧
        (∀ g : PhysicalPage, r.check.results[g] =
          if s.check.selected.getLsbD g.val = true ∧ s.carriesFault g = true then some .skipped
          else s.check.results[g]) ∧
        (s.check.steps.pattern = true → exec (.referenceTestComplete .pass) s = .next r.nextPageTest) ∧
        (s.check.steps.pattern = false → s.check.steps.decode = true →
          exec (.referenceTestComplete .pass) s = .next r.beginDecode) ∧
        (s.check.steps.pattern = false → s.check.steps.decode = false →
          exec (.referenceTestComplete .pass) s = .next r.endCheck)) ∧
    (s.check.state ≠ .running ∨ s.check.current ≠ .reference → ∀ o, exec (.referenceTestComplete o) s = .next s)) ∧
  ∀ r : State,
    let good : PhysicalPage → Prop := fun h =>
      r.check.selected.getLsbD h.val = true ∧ r.check.results[h] ≠ some .skipped ∧ r.carriesFault h = false
    (∀ x y, good x → good y → x < y → (∀ x' y', good x' → good y' → x' < y' → x < x' ∨ (x = x' ∧ y ≤ y')) →
      r.beginDecode = { r with check := { r.check with current := .pair x y } }) ∧
    ((∀ x y, good x → good y → x = y) → r.beginDecode = r.endCheck)

/-- A page or pair test leaves its pages zero-filled, judges them, and the next test begins (R150, R151, R1, R2). That
eligibility is tested where a pair is chosen is the model's deduction (log entry 16). -/
def Obligations.PageAndPairTestsJudgeAndZeroFill : Prop :=
  ∀ (s : State) (o : TestOutcome), s.phase = .operating → s.check.state = .running →
    (∀ g, s.check.current = .page g →
      ∃ r : State,
        r = { s with words := r.words, faults := r.faults, check := { s.check with results := r.check.results } } ∧
        (∀ a, r.words.read a = if inPage g a then 0 else s.words.read a) ∧
        (∀ h, r.faultsOf h = if h = g ∧ o = .fail then { s.faultsOf h with pattern := true } else s.faultsOf h) ∧
        (∀ h : PhysicalPage, r.check.results[h] =
          if h = g then some (if o = .pass then .pass else .failPattern) else s.check.results[h]) ∧
        (∀ h : PhysicalPage, r.check.results[h] = some .notReached →
          (∀ j : PhysicalPage, j < h → r.check.results[j] ≠ some .notReached) →
          exec (.pageTestComplete o) s = .next { r with check := { r.check with current := .page h } }) ∧
        ((∀ h : PhysicalPage, r.check.results[h] ≠ some .notReached) →
          let good : PhysicalPage → Prop := fun h =>
            s.check.selected.getLsbD h.val = true ∧ r.check.results[h] ≠ some .skipped ∧ r.carriesFault h = false
          (s.check.steps.decode = true →
            (∀ x y, good x → good y → x < y → (∀ x' y', good x' → good y' → x' < y' → x < x' ∨ (x = x' ∧ y ≤ y')) →
              exec (.pageTestComplete o) s = .next { r with check := { r.check with current := .pair x y } }) ∧
            ((∀ x y, good x → good y → x = y) → exec (.pageTestComplete o) s = .next r.endCheck)) ∧
          (s.check.steps.decode = false → exec (.pageTestComplete o) s = .next r.endCheck))) ∧
    ∀ a b, s.check.current = .pair a b →
      ∃ r : State,
        r = { s with words := r.words, faults := r.faults, check := { s.check with results := r.check.results } } ∧
        (∀ x, r.words.read x = if inPage a x ∨ inPage b x then 0 else s.words.read x) ∧
        (∀ h, r.faultsOf h =
          if (h = a ∨ h = b) ∧ o = .fail then { s.faultsOf h with decode := true } else s.faultsOf h) ∧
        (∀ h : PhysicalPage, r.check.results[h] =
          if (h = a ∨ h = b) ∧ o = .fail then some .failDecode else s.check.results[h]) ∧
        let good : PhysicalPage → Prop := fun h =>
          s.check.selected.getLsbD h.val = true ∧ r.check.results[h] ≠ some .skipped ∧ r.carriesFault h = false
        let later : PhysicalPage → PhysicalPage → Prop := fun x y =>
          good x ∧ good y ∧ x < y ∧ (a < x ∨ (a = x ∧ b < y))
        (∀ x y, later x y → (∀ x' y', later x' y' → x < x' ∨ (x = x' ∧ y ≤ y')) →
          exec (.pairTestComplete o) s = .next { r with check := { r.check with current := .pair x y } }) ∧
        ((∀ x y, ¬later x y) → exec (.pairTestComplete o) s = .next r.endCheck)

/-- A check that ends settles its results, clears its marks, raises CHECK and PAGE and gives a service pass (R154, R5,
R3). -/
def Obligations.CheckEndSettlesResultsAndRaisesEvents : Prop :=
  ∀ s : State,
    ∃ r : State, s.endCheck = r.servicePass ∧
      r = { s with
        heldMarks := r.heldMarks, events := r.events
        check := { s.check with state := .ended, current := r.check.current, results := r.check.results } } ∧
      r.check.current = (if s.check.aborted then s.check.current else .none) ∧
      (∀ g : PhysicalPage, r.check.results[g] =
        if s.check.aborted = false ∧ s.check.reference = some .pass ∧ s.check.results[g] = some .notReached then
          some .pass
        else s.check.results[g]) ∧
      (∀ g, r.heldMark g = (s.heldMark g && !s.check.selected.getLsbD g.val)) ∧
      ∀ q,
        let checked : PortEvents := if s.check.starter = some q then (s.eventsAt q).raise flagCheck else s.eventsAt q
        let failedAndMapped : Prop := ∃ g l, s.check.results[g] ∈ [some PageResult.failPattern, some PageResult.failDecode] ∧
          (s.entry q l).page = g ∧ (s.entry q l).access ≠ .absent
        (failedAndMapped → r.eventsAt q = checked.raise flagPage) ∧ (¬failedAndMapped → r.eventsAt q = checked)

/-- POWER_ON and RESET_ASSERT stop the part; the end of start-up and RESET_RELEASE give every block its defaults (R177,
R160, R2, R70, R43, R46, R143, R158, R186). That other state stays until the part starts, and what pins, selects and
data outputs hold, are the model's (log entries 6, 13, 15). -/
def Obligations.PowerAndResetLoseAndRestore : Prop :=
  ∀ (s : State) (straps : Vector Level 4),
    let lost : Port → Port := fun pt =>
      { pt with
        receive := .waitLength, receiveTimer := none, response := none, outgoing := none, run := none, kept := none }
    let stopped : Phase → State := fun phase =>
      { s with
        phase := phase, ports := Vector.ofFn fun p => lost (s.port p)
        events := Vector.ofFn fun p => { s.eventsAt p with attention := false } }
    let started : Phase → State := fun phase =>
      { State.reset with
        phase := phase, pins := s.pins, pending := s.pending
        ports := Vector.ofFn fun p =>
          { Port.initial straps[p] (s.port p).selected (s.port p).dataOut with period := .open } }
    (s.phase ∈ [.operating, .startingUp] → exec .powerOn s = .next (stopped .startingUp)) ∧
      (s.phase ∈ [.resetAsserted, .startingUpInReset] → exec .powerOn s = .next (stopped .startingUpInReset)) ∧
      (s.phase ∈ [.operating, .resetAsserted] → exec .resetAssert s = .next (stopped .resetAsserted)) ∧
      (s.phase ∈ [.startingUp, .startingUpInReset] → exec .resetAssert s = .next (stopped .startingUpInReset)) ∧
      (s.phase = .startingUp → exec (.startupComplete straps) s = .next (started .operating)) ∧
      (s.phase = .startingUpInReset → exec (.startupComplete straps) s = .next (started .resetAsserted)) ∧
      (s.phase ∈ [.operating, .resetAsserted] → exec (.startupComplete straps) s = .next s) ∧
      (s.phase = .resetAsserted → exec (.resetRelease straps) s = .next (started .operating)) ∧
      (s.phase = .startingUpInReset → exec (.resetRelease straps) s = .next (started .startingUp)) ∧
      (s.phase ∈ [.operating, .startingUp] → exec (.resetRelease straps) s = .next s)

/-- While RESET is asserted or start-up runs, no command, timer, line or step has an effect (R177). -/
def Obligations.NothingIsTakenWhileNotOperating : Prop :=
  ∀ (i : Instr) (s : State), s.phase ≠ .operating →
    ((i.commandPort.isSome = true ∨ (∃ p, i = .receiveTimerExpiry p) ∨ (∃ p b, i = .dataRunWordAccess p b) ∨
        (∃ f, i = .elementStep f) ∨ (∃ l, i = .debounceExpiry l) ∨ (∃ l, i = .validationExpiry l) ∨
        i = .intervalTimerExpiry ∨ i = .remainingCountFalls ∨ (∃ o, i = .referenceTestComplete o) ∨
        (∃ o, i = .pageTestComplete o) ∨ ∃ o, i = .pairTestComplete o) → exec i s = .next s) ∧
    ∀ l level, i = .pinLevelChange l level → exec i s = .next { s with pins := update s.pins l level }

/-- Every invariant of the part holds right after reset (R70, R43, R46, R122, R144, R159, R186, R6). -/
def Obligations.SafeStateHoldsAfterReset : Prop :=
  StoreCanonical State.reset ∧ RunStructure State.reset ∧ RecordsFit State.reset ∧ CheckHolds State.reset ∧
    SpansProtected State.reset ∧ LinesFit State.reset ∧ PortsFit State.reset ∧ AttentionFollows State.reset ∧
    NoticesNamed State.reset

/-- Every step keeps the words of the store in canonical form (the model's choice) (01_array_store_and_window_maps.md).
The canonical form is the model's choice (log entry 8). -/
def Obligations.StepsKeepTheStoreCanonical : Prop :=
  ∀ s t : State, StoreCanonical s → step s = .next t → StoreCanonical t

/-- Every step keeps the run structure whole (R66, R67, R68, R69, R56). The ascending order of the held set is the
model's choice (log entry 10). -/
def Obligations.StepsKeepTheRunStructureWhole : Prop :=
  ∀ s t : State, RunStructure s → step s = .next t → RunStructure t

/-- Every step keeps every context record one that the manual admits (R22, R25, R26, R28, R29, R30). -/
def Obligations.StepsKeepRecordsFitting : Prop :=
  ∀ s t : State, RunStructure s → RecordsFit s → step s = .next t → RecordsFit t

/-- Every step keeps every page under test out of the span of every active context (R5, R9, R41, R42, R94, R145). -/
def Obligations.StepsKeepTestedPagesOutOfSpans : Prop :=
  ∀ s t : State, RunStructure s → CheckHolds s → SpansProtected s → step s = .next t → CheckHolds t ∧ SpansProtected t

/-- Every step keeps every line and every port in a state that the manual admits (R123, R129, R14, R159, R163, R164,
R165, R168). -/
def Obligations.StepsKeepLinesAndPortsFitting : Prop :=
  ∀ s t : State, LinesFit s → PortsFit s → step s = .next t → LinesFit t ∧ PortsFit t

/-- Every step keeps each attention output equal to flags meeting mask, and notices to defined contexts (R181, R177,
R40, R136). -/
def Obligations.StepsKeepAttentionFollowingFlags : Prop :=
  ∀ s t : State, AttentionFollows s → NoticesNamed s → step s = .next t → AttentionFollows t ∧ NoticesNamed t

/-- No step changes the map of a port that owns an active context before and after it (R9, R42). -/
def Obligations.MapIsLockedWhileContextsAreActive : Prop :=
  ∀ (s t : State) (p : PortId), step s = .next t → s.mapLocked p = true → t.mapLocked p = true → t.maps[p] = s.maps[p]
end

