-- ==== Sys2Proof/Laws/Blocks.lean ====
section
/-! SUPPORT. What the range check and the pages reached say of every checked address of an operand (R24, R26, R41). -/

namespace Sys2Proof.Machine

/-- The two extreme indices bound every address between them (R26). -/
theorem Operand.inRange_iff (o : Operand) (h : 1 ≤ o.count) :
    o.inRange = true ↔
      ∀ j : Nat, j < o.count →
        0 ≤ o.descriptor.exactAddress (o.first + j) ∧ o.descriptor.exactAddress (o.first + j) ≤ 4095 := by
  unfold Operand.inRange Descriptor.exactAddress
  simp only [Bool.and_eq_true, decide_eq_true_eq]
  generalize o.descriptor.base = base
  generalize o.descriptor.step = step
  generalize o.first = first
  generalize o.count = count at *
  constructor
  · rintro ⟨⟨⟨lo, hi⟩, lo'⟩, hi'⟩ j hj
    have hj0 : (0 : Int) ≤ j := by omega
    have hj1 : (j : Int) ≤ count - 1 := by omega
    have last : (first + count - 1) * step = first * step + (count - 1) * step := by ring
    have here : (first + j) * step = first * step + j * step := by ring
    rw [last] at lo' hi'
    rw [here]
    rcases le_or_gt 0 step with hs | hs
    · have := mul_le_mul_of_nonneg_right hj1 hs
      have := mul_nonneg hj0 hs
      constructor <;> linarith
    · have := mul_le_mul_of_nonpos_right hj1 (le_of_lt hs)
      have := mul_nonpos_of_nonneg_of_nonpos hj0 (le_of_lt hs)
      constructor <;> linarith
  · intro every
    have head := every 0 (by omega)
    have last := every (count - 1) (by omega)
    rw [show ((count - 1 : Nat) : Int) = count - 1 by omega, show first + ((count : Int) - 1) = first + count - 1 by ring]
      at last
    simp only [Nat.cast_zero, add_zero] at head
    exact ⟨⟨⟨head.1, head.2⟩, last.1⟩, last.2⟩

/-- The logical address of a checked index of a block in range is the exact sum (R26). -/
theorem Operand.address_toNat (o : Operand) (h : o.inRange = true) {j : Nat} (hj : j < o.count) :
    ((o.descriptor.address (o.first + j)).toNat : Int) = o.descriptor.exactAddress (o.first + j) := by
  have bounds := (o.inRange_iff (by omega)).mp h j hj
  unfold Descriptor.address
  rw [BitVec.toNat_ofInt]
  omega

/-- A page is reached exactly where a checked address lies in its 256 words (R41). -/
theorem Operand.reaches_iff (o : Operand) (l : LogicalPage) (h : o.inRange = true) :
    o.reaches l = true ↔
      ∃ j : Nat, j < o.count ∧ (l.val * 256 : Int) ≤ o.descriptor.exactAddress (o.first + j) ∧
        o.descriptor.exactAddress (o.first + j) < (l.val + 1) * 256 := by
  unfold Operand.reaches
  rw [List.any_eq_true]
  simp only [List.mem_range, decide_eq_true_eq]
  refine exists_congr fun j => and_congr_right fun hj => ?_
  rw [← o.address_toNat h hj, Fin.ext_iff]
  unfold logicalPageOf
  dsimp only
  omega

end Sys2Proof.Machine
end

