-- ==== Sys2Proof/Laws/Frames.lean ====
section
/-! SUPPORT. The fields of a frame: each one read back from its bytes is the field, and a closed frame passes its
check. -/

namespace Sys2Proof

theorem yes_boolByte (b : Bool) : yes (boolByte b) = b := by cases b <;> rfl

theorem satSetOf_toByte (m : SatSet) : satSetOf m.toByte = m := by
  rcases m with ⟨a, b⟩; cases a <;> cases b <;> rfl

theorem faultSetOf_toByte (f : FaultSet) : faultSetOf f.toByte = f := by
  rcases f with ⟨a, b, c⟩; cases a <;> cases b <;> cases c <;> rfl

theorem stepRequestOf_toByte (r : StepRequest) : stepRequestOf r.toByte = r := by
  rcases r with ⟨a, b⟩; cases a <;> cases b <;> rfl

theorem half_bytes (v : BitVec 16) : half (v.extractLsb' 8 8) (v.extractLsb' 0 8) = v := by
  apply BitVec.eq_of_getLsbD_eq
  intro i hi
  simp only [half, BitVec.getLsbD_append, BitVec.getLsbD_extractLsb']
  interval_cases i <;> rfl

theorem word_bytes (v : Word) :
    word (v.extractLsb' 24 8) (v.extractLsb' 16 8) (v.extractLsb' 8 8) (v.extractLsb' 0 8) = v := by
  apply BitVec.eq_of_getLsbD_eq
  intro i hi
  simp only [word, BitVec.getLsbD_append, BitVec.getLsbD_extractLsb']
  interval_cases i <;> rfl

theorem pageSetOf_bytes (v : PageSet) :
    pageSetOf (v.extractLsb' 0 8) (v.extractLsb' 8 8) (v.extractLsb' 16 8) (v.extractLsb' 24 8)
      (v.extractLsb' 32 8) (v.extractLsb' 40 8) (v.extractLsb' 48 8) (v.extractLsb' 56 8) = v := by
  apply BitVec.eq_of_getLsbD_eq
  intro i hi
  simp only [pageSetOf, BitVec.getLsbD_append, BitVec.getLsbD_extractLsb']
  interval_cases i <;> rfl

theorem parseBlockFields_bytes (b : BlockFields) : parseBlockFields b.bytes = some b := by
  rcases b with ⟨op, pr, m, n, tp, sh, w, r, mg, x, y, z⟩
  simp [BlockFields.bytes, bytes16, bytes32, DescriptorFields.bytes, parseBlockFields, satSetOf_toByte, half_bytes,
    word_bytes, yes_boolByte]

theorem parseEntries_bytes (es : List MapFields) : parseEntries (es.flatMap MapFields.bytes) = some es := by
  induction es with
  | nil => rfl
  | cons e rest ih =>
    rw [List.flatMap_cons]
    rw [show e.bytes ++ rest.flatMap MapFields.bytes =
      e.logical :: e.physical :: e.access :: rest.flatMap MapFields.bytes from rfl]
    simp only [parseEntries, ih]; rfl

theorem parseWords_bytes (ws : List Word) : parseWords (ws.flatMap bytes32) = some ws := by
  induction ws with
  | nil => rfl
  | cons w rest ih =>
    rw [List.flatMap_cons]
    rw [show bytes32 w ++ rest.flatMap bytes32 =
      w.extractLsb' 24 8 :: w.extractLsb' 16 8 :: w.extractLsb' 8 8 :: w.extractLsb' 0 8 :: rest.flatMap bytes32 from rfl]
    simp only [parseWords, word_bytes, ih]; rfl

/-! ### Which lengths a layout admits (R187) -/

theorem layout0_eq (i : Instr) (ps : List Byte) :
    layout0 i ps = if ps.length = 0 then .ok i else .error .length := by cases ps <;> rfl

theorem layout1_eq (f : Byte → Instr) (ps : List Byte) :
    layout1 f ps = if h : ps.length = 1 then .ok (f ps[0]) else .error .length := by
  match ps with
  | [] => rfl
  | [_] => rfl
  | _ :: _ :: _ => simp [layout1]

theorem parseEntries_isSome (ps : List Byte) : (parseEntries ps).isSome = true ↔ ps.length % 3 = 0 := by
  induction ps using parseEntries.induct with
  | case1 => simp [parseEntries]
  | case2 l p a rest ih =>
    simp only [parseEntries, Option.isSome_map, List.length_cons, ih]
    omega
  | case3 ps h1 h2 =>
    match ps, h1, h2 with
    | [], h1, _ => exact absurd rfl h1
    | [a], _, _ => simp [parseEntries]
    | [a, b], _, _ => simp [parseEntries]
    | a :: b :: c :: rest, _, h2 => exact absurd rfl (h2 a b c rest)

theorem parseWords_isSome (ps : List Byte) : (parseWords ps).isSome = true ↔ ps.length % 4 = 0 := by
  induction ps using parseWords.induct with
  | case1 => simp [parseWords]
  | case2 a b c d rest ih =>
    simp only [parseWords, Option.isSome_map, List.length_cons, ih]
    omega
  | case3 ps h1 h2 =>
    match ps, h1, h2 with
    | [], h1, _ => exact absurd rfl h1
    | [a], _, _ => simp [parseWords]
    | [a, b], _, _ => simp [parseWords]
    | [a, b, c], _, _ => simp [parseWords]
    | a :: b :: c :: d :: rest, _, h2 => exact absurd rfl (h2 a b c d rest)

/-! ### The check byte -/

/-- A byte taken into a register that equals it leaves 00H. -/
theorem crcByte_self (r : Byte) : crcByte r r = 0 := by
  unfold crcByte
  rw [BitVec.xor_self]
  decide

/-- The CRC-8 over a closed frame, check byte included, is 00H. -/
theorem crc8_closeFrame (middle : List Byte) : crc8 (closeFrame middle) = 0 := by
  unfold closeFrame crc8
  simp only [List.foldl_append, List.foldl_cons, List.foldl_nil]
  exact crcByte_self _

end Sys2Proof
end

