-- ==== Sys2Proof/Laws/State.lean ====
section
/-! SUPPORT. One lemma per field and accessor for each update of the state: what the update leaves as it is. -/

namespace Sys2Proof.Machine


/-! ### modPort -/

@[simp] theorem State.modPort_phase (s : State) (p : PortId) (f : Port → Port) : (s.modPort p f).phase = s.phase := rfl
@[simp] theorem State.modPort_words (s : State) (p : PortId) (f : Port → Port) : (s.modPort p f).words = s.words := rfl
@[simp] theorem State.modPort_faults (s : State) (p : PortId) (f : Port → Port) : (s.modPort p f).faults = s.faults := rfl
@[simp] theorem State.modPort_heldMarks (s : State) (p : PortId) (f : Port → Port) : (s.modPort p f).heldMarks = s.heldMarks := rfl
@[simp] theorem State.modPort_offline (s : State) (p : PortId) (f : Port → Port) : (s.modPort p f).offline = s.offline := rfl
@[simp] theorem State.modPort_maps (s : State) (p : PortId) (f : Port → Port) : (s.modPort p f).maps = s.maps := rfl
@[simp] theorem State.modPort_contexts (s : State) (p : PortId) (f : Port → Port) : (s.modPort p f).contexts = s.contexts := rfl
@[simp] theorem State.modPort_gates (s : State) (p : PortId) (f : Port → Port) : (s.modPort p f).gates = s.gates := rfl
@[simp] theorem State.modPort_chain (s : State) (p : PortId) (f : Port → Port) : (s.modPort p f).chain = s.chain := rfl
@[simp] theorem State.modPort_ready (s : State) (p : PortId) (f : Port → Port) : (s.modPort p f).ready = s.ready := rfl
@[simp] theorem State.modPort_heldSet (s : State) (p : PortId) (f : Port → Port) : (s.modPort p f).heldSet = s.heldSet := rfl
@[simp] theorem State.modPort_lines (s : State) (p : PortId) (f : Port → Port) : (s.modPort p f).lines = s.lines := rfl
@[simp] theorem State.modPort_pins (s : State) (p : PortId) (f : Port → Port) : (s.modPort p f).pins = s.pins := rfl
@[simp] theorem State.modPort_timer (s : State) (p : PortId) (f : Port → Port) : (s.modPort p f).timer = s.timer := rfl
@[simp] theorem State.modPort_check (s : State) (p : PortId) (f : Port → Port) : (s.modPort p f).check = s.check := rfl
@[simp] theorem State.modPort_events (s : State) (p : PortId) (f : Port → Port) : (s.modPort p f).events = s.events := rfl
@[simp] theorem State.modPort_pending (s : State) (p : PortId) (f : Port → Port) : (s.modPort p f).pending = s.pending := rfl
@[simp] theorem State.modPort_ctx (s : State) (p : PortId) (f : Port → Port) (d : ContextId) :
    (s.modPort p f).ctx d = s.ctx d := rfl
@[simp] theorem State.modPort_gate (s : State) (p : PortId) (f : Port → Port) (g : GateId) :
    (s.modPort p f).gate g = s.gate g := rfl
@[simp] theorem State.modPort_line (s : State) (p : PortId) (f : Port → Port) (m : LineId) :
    (s.modPort p f).line m = s.line m := rfl
@[simp] theorem State.modPort_eventsAt (s : State) (p : PortId) (f : Port → Port) (q : PortId) :
    (s.modPort p f).eventsAt q = s.eventsAt q := rfl
@[simp] theorem State.modPort_entry (s : State) (p : PortId) (f : Port → Port) (q : PortId) (n : LogicalPage) :
    (s.modPort p f).entry q n = s.entry q n := rfl
@[simp] theorem State.modPort_entryFor (s : State) (p : PortId) (f : Port → Port) (q : PortId) (a : LogicalAddress) :
    (s.modPort p f).entryFor q a = s.entryFor q a := rfl
@[simp] theorem State.modPort_physical (s : State) (p : PortId) (f : Port → Port) (q : PortId) (a : LogicalAddress) :
    (s.modPort p f).physical q a = s.physical q a := rfl
@[simp] theorem State.modPort_faultsOf (s : State) (p : PortId) (f : Port → Port) (g : PhysicalPage) :
    (s.modPort p f).faultsOf g = s.faultsOf g := rfl
@[simp] theorem State.modPort_heldMark (s : State) (p : PortId) (f : Port → Port) (g : PhysicalPage) :
    (s.modPort p f).heldMark g = s.heldMark g := rfl

/-! ### setCtx -/

@[simp] theorem State.setCtx_phase (s : State) (c : ContextId) (k : Option Context) : (s.setCtx c k).phase = s.phase := rfl
@[simp] theorem State.setCtx_words (s : State) (c : ContextId) (k : Option Context) : (s.setCtx c k).words = s.words := rfl
@[simp] theorem State.setCtx_faults (s : State) (c : ContextId) (k : Option Context) : (s.setCtx c k).faults = s.faults := rfl
@[simp] theorem State.setCtx_heldMarks (s : State) (c : ContextId) (k : Option Context) : (s.setCtx c k).heldMarks = s.heldMarks := rfl
@[simp] theorem State.setCtx_offline (s : State) (c : ContextId) (k : Option Context) : (s.setCtx c k).offline = s.offline := rfl
@[simp] theorem State.setCtx_maps (s : State) (c : ContextId) (k : Option Context) : (s.setCtx c k).maps = s.maps := rfl
@[simp] theorem State.setCtx_gates (s : State) (c : ContextId) (k : Option Context) : (s.setCtx c k).gates = s.gates := rfl
@[simp] theorem State.setCtx_chain (s : State) (c : ContextId) (k : Option Context) : (s.setCtx c k).chain = s.chain := rfl
@[simp] theorem State.setCtx_ready (s : State) (c : ContextId) (k : Option Context) : (s.setCtx c k).ready = s.ready := rfl
@[simp] theorem State.setCtx_heldSet (s : State) (c : ContextId) (k : Option Context) : (s.setCtx c k).heldSet = s.heldSet := rfl
@[simp] theorem State.setCtx_lines (s : State) (c : ContextId) (k : Option Context) : (s.setCtx c k).lines = s.lines := rfl
@[simp] theorem State.setCtx_pins (s : State) (c : ContextId) (k : Option Context) : (s.setCtx c k).pins = s.pins := rfl
@[simp] theorem State.setCtx_timer (s : State) (c : ContextId) (k : Option Context) : (s.setCtx c k).timer = s.timer := rfl
@[simp] theorem State.setCtx_check (s : State) (c : ContextId) (k : Option Context) : (s.setCtx c k).check = s.check := rfl
@[simp] theorem State.setCtx_ports (s : State) (c : ContextId) (k : Option Context) : (s.setCtx c k).ports = s.ports := rfl
@[simp] theorem State.setCtx_events (s : State) (c : ContextId) (k : Option Context) : (s.setCtx c k).events = s.events := rfl
@[simp] theorem State.setCtx_pending (s : State) (c : ContextId) (k : Option Context) : (s.setCtx c k).pending = s.pending := rfl
@[simp] theorem State.setCtx_port (s : State) (c : ContextId) (k : Option Context) (q : PortId) :
    (s.setCtx c k).port q = s.port q := rfl
@[simp] theorem State.setCtx_level (s : State) (c : ContextId) (k : Option Context) (q : PortId) :
    (s.setCtx c k).level q = s.level q := rfl
@[simp] theorem State.setCtx_gate (s : State) (c : ContextId) (k : Option Context) (g : GateId) :
    (s.setCtx c k).gate g = s.gate g := rfl
@[simp] theorem State.setCtx_line (s : State) (c : ContextId) (k : Option Context) (m : LineId) :
    (s.setCtx c k).line m = s.line m := rfl
@[simp] theorem State.setCtx_eventsAt (s : State) (c : ContextId) (k : Option Context) (q : PortId) :
    (s.setCtx c k).eventsAt q = s.eventsAt q := rfl
@[simp] theorem State.setCtx_entry (s : State) (c : ContextId) (k : Option Context) (q : PortId) (n : LogicalPage) :
    (s.setCtx c k).entry q n = s.entry q n := rfl
@[simp] theorem State.setCtx_entryFor (s : State) (c : ContextId) (k : Option Context) (q : PortId) (a : LogicalAddress) :
    (s.setCtx c k).entryFor q a = s.entryFor q a := rfl
@[simp] theorem State.setCtx_physical (s : State) (c : ContextId) (k : Option Context) (q : PortId) (a : LogicalAddress) :
    (s.setCtx c k).physical q a = s.physical q a := rfl
@[simp] theorem State.setCtx_faultsOf (s : State) (c : ContextId) (k : Option Context) (g : PhysicalPage) :
    (s.setCtx c k).faultsOf g = s.faultsOf g := rfl
@[simp] theorem State.setCtx_heldMark (s : State) (c : ContextId) (k : Option Context) (g : PhysicalPage) :
    (s.setCtx c k).heldMark g = s.heldMark g := rfl

/-! ### modCtx -/

@[simp] theorem State.modCtx_phase (s : State) (c : ContextId) (f : Context → Context) : (s.modCtx c f).phase = s.phase := rfl
@[simp] theorem State.modCtx_words (s : State) (c : ContextId) (f : Context → Context) : (s.modCtx c f).words = s.words := rfl
@[simp] theorem State.modCtx_faults (s : State) (c : ContextId) (f : Context → Context) : (s.modCtx c f).faults = s.faults := rfl
@[simp] theorem State.modCtx_heldMarks (s : State) (c : ContextId) (f : Context → Context) : (s.modCtx c f).heldMarks = s.heldMarks := rfl
@[simp] theorem State.modCtx_offline (s : State) (c : ContextId) (f : Context → Context) : (s.modCtx c f).offline = s.offline := rfl
@[simp] theorem State.modCtx_maps (s : State) (c : ContextId) (f : Context → Context) : (s.modCtx c f).maps = s.maps := rfl
@[simp] theorem State.modCtx_gates (s : State) (c : ContextId) (f : Context → Context) : (s.modCtx c f).gates = s.gates := rfl
@[simp] theorem State.modCtx_chain (s : State) (c : ContextId) (f : Context → Context) : (s.modCtx c f).chain = s.chain := rfl
@[simp] theorem State.modCtx_ready (s : State) (c : ContextId) (f : Context → Context) : (s.modCtx c f).ready = s.ready := rfl
@[simp] theorem State.modCtx_heldSet (s : State) (c : ContextId) (f : Context → Context) : (s.modCtx c f).heldSet = s.heldSet := rfl
@[simp] theorem State.modCtx_lines (s : State) (c : ContextId) (f : Context → Context) : (s.modCtx c f).lines = s.lines := rfl
@[simp] theorem State.modCtx_pins (s : State) (c : ContextId) (f : Context → Context) : (s.modCtx c f).pins = s.pins := rfl
@[simp] theorem State.modCtx_timer (s : State) (c : ContextId) (f : Context → Context) : (s.modCtx c f).timer = s.timer := rfl
@[simp] theorem State.modCtx_check (s : State) (c : ContextId) (f : Context → Context) : (s.modCtx c f).check = s.check := rfl
@[simp] theorem State.modCtx_ports (s : State) (c : ContextId) (f : Context → Context) : (s.modCtx c f).ports = s.ports := rfl
@[simp] theorem State.modCtx_events (s : State) (c : ContextId) (f : Context → Context) : (s.modCtx c f).events = s.events := rfl
@[simp] theorem State.modCtx_pending (s : State) (c : ContextId) (f : Context → Context) : (s.modCtx c f).pending = s.pending := rfl
@[simp] theorem State.modCtx_port (s : State) (c : ContextId) (f : Context → Context) (q : PortId) :
    (s.modCtx c f).port q = s.port q := rfl
@[simp] theorem State.modCtx_level (s : State) (c : ContextId) (f : Context → Context) (q : PortId) :
    (s.modCtx c f).level q = s.level q := rfl
@[simp] theorem State.modCtx_gate (s : State) (c : ContextId) (f : Context → Context) (g : GateId) :
    (s.modCtx c f).gate g = s.gate g := rfl
@[simp] theorem State.modCtx_line (s : State) (c : ContextId) (f : Context → Context) (m : LineId) :
    (s.modCtx c f).line m = s.line m := rfl
@[simp] theorem State.modCtx_eventsAt (s : State) (c : ContextId) (f : Context → Context) (q : PortId) :
    (s.modCtx c f).eventsAt q = s.eventsAt q := rfl
@[simp] theorem State.modCtx_entry (s : State) (c : ContextId) (f : Context → Context) (q : PortId) (n : LogicalPage) :
    (s.modCtx c f).entry q n = s.entry q n := rfl
@[simp] theorem State.modCtx_entryFor (s : State) (c : ContextId) (f : Context → Context) (q : PortId) (a : LogicalAddress) :
    (s.modCtx c f).entryFor q a = s.entryFor q a := rfl
@[simp] theorem State.modCtx_physical (s : State) (c : ContextId) (f : Context → Context) (q : PortId) (a : LogicalAddress) :
    (s.modCtx c f).physical q a = s.physical q a := rfl
@[simp] theorem State.modCtx_faultsOf (s : State) (c : ContextId) (f : Context → Context) (g : PhysicalPage) :
    (s.modCtx c f).faultsOf g = s.faultsOf g := rfl
@[simp] theorem State.modCtx_heldMark (s : State) (c : ContextId) (f : Context → Context) (g : PhysicalPage) :
    (s.modCtx c f).heldMark g = s.heldMark g := rfl

/-! ### modLine -/

@[simp] theorem State.modLine_phase (s : State) (l : LineId) (f : Line → Line) : (s.modLine l f).phase = s.phase := rfl
@[simp] theorem State.modLine_words (s : State) (l : LineId) (f : Line → Line) : (s.modLine l f).words = s.words := rfl
@[simp] theorem State.modLine_faults (s : State) (l : LineId) (f : Line → Line) : (s.modLine l f).faults = s.faults := rfl
@[simp] theorem State.modLine_heldMarks (s : State) (l : LineId) (f : Line → Line) : (s.modLine l f).heldMarks = s.heldMarks := rfl
@[simp] theorem State.modLine_offline (s : State) (l : LineId) (f : Line → Line) : (s.modLine l f).offline = s.offline := rfl
@[simp] theorem State.modLine_maps (s : State) (l : LineId) (f : Line → Line) : (s.modLine l f).maps = s.maps := rfl
@[simp] theorem State.modLine_contexts (s : State) (l : LineId) (f : Line → Line) : (s.modLine l f).contexts = s.contexts := rfl
@[simp] theorem State.modLine_gates (s : State) (l : LineId) (f : Line → Line) : (s.modLine l f).gates = s.gates := rfl
@[simp] theorem State.modLine_chain (s : State) (l : LineId) (f : Line → Line) : (s.modLine l f).chain = s.chain := rfl
@[simp] theorem State.modLine_ready (s : State) (l : LineId) (f : Line → Line) : (s.modLine l f).ready = s.ready := rfl
@[simp] theorem State.modLine_heldSet (s : State) (l : LineId) (f : Line → Line) : (s.modLine l f).heldSet = s.heldSet := rfl
@[simp] theorem State.modLine_pins (s : State) (l : LineId) (f : Line → Line) : (s.modLine l f).pins = s.pins := rfl
@[simp] theorem State.modLine_timer (s : State) (l : LineId) (f : Line → Line) : (s.modLine l f).timer = s.timer := rfl
@[simp] theorem State.modLine_check (s : State) (l : LineId) (f : Line → Line) : (s.modLine l f).check = s.check := rfl
@[simp] theorem State.modLine_ports (s : State) (l : LineId) (f : Line → Line) : (s.modLine l f).ports = s.ports := rfl
@[simp] theorem State.modLine_events (s : State) (l : LineId) (f : Line → Line) : (s.modLine l f).events = s.events := rfl
@[simp] theorem State.modLine_pending (s : State) (l : LineId) (f : Line → Line) : (s.modLine l f).pending = s.pending := rfl
@[simp] theorem State.modLine_port (s : State) (l : LineId) (f : Line → Line) (q : PortId) :
    (s.modLine l f).port q = s.port q := rfl
@[simp] theorem State.modLine_level (s : State) (l : LineId) (f : Line → Line) (q : PortId) :
    (s.modLine l f).level q = s.level q := rfl
@[simp] theorem State.modLine_ctx (s : State) (l : LineId) (f : Line → Line) (d : ContextId) :
    (s.modLine l f).ctx d = s.ctx d := rfl
@[simp] theorem State.modLine_gate (s : State) (l : LineId) (f : Line → Line) (g : GateId) :
    (s.modLine l f).gate g = s.gate g := rfl
@[simp] theorem State.modLine_eventsAt (s : State) (l : LineId) (f : Line → Line) (q : PortId) :
    (s.modLine l f).eventsAt q = s.eventsAt q := rfl
@[simp] theorem State.modLine_entry (s : State) (l : LineId) (f : Line → Line) (q : PortId) (n : LogicalPage) :
    (s.modLine l f).entry q n = s.entry q n := rfl
@[simp] theorem State.modLine_entryFor (s : State) (l : LineId) (f : Line → Line) (q : PortId) (a : LogicalAddress) :
    (s.modLine l f).entryFor q a = s.entryFor q a := rfl
@[simp] theorem State.modLine_physical (s : State) (l : LineId) (f : Line → Line) (q : PortId) (a : LogicalAddress) :
    (s.modLine l f).physical q a = s.physical q a := rfl
@[simp] theorem State.modLine_faultsOf (s : State) (l : LineId) (f : Line → Line) (g : PhysicalPage) :
    (s.modLine l f).faultsOf g = s.faultsOf g := rfl
@[simp] theorem State.modLine_heldMark (s : State) (l : LineId) (f : Line → Line) (g : PhysicalPage) :
    (s.modLine l f).heldMark g = s.heldMark g := rfl

/-! ### modEvents -/

@[simp] theorem State.modEvents_phase (s : State) (p : PortId) (f : PortEvents → PortEvents) : (s.modEvents p f).phase = s.phase := rfl
@[simp] theorem State.modEvents_words (s : State) (p : PortId) (f : PortEvents → PortEvents) : (s.modEvents p f).words = s.words := rfl
@[simp] theorem State.modEvents_faults (s : State) (p : PortId) (f : PortEvents → PortEvents) : (s.modEvents p f).faults = s.faults := rfl
@[simp] theorem State.modEvents_heldMarks (s : State) (p : PortId) (f : PortEvents → PortEvents) : (s.modEvents p f).heldMarks = s.heldMarks := rfl
@[simp] theorem State.modEvents_offline (s : State) (p : PortId) (f : PortEvents → PortEvents) : (s.modEvents p f).offline = s.offline := rfl
@[simp] theorem State.modEvents_maps (s : State) (p : PortId) (f : PortEvents → PortEvents) : (s.modEvents p f).maps = s.maps := rfl
@[simp] theorem State.modEvents_contexts (s : State) (p : PortId) (f : PortEvents → PortEvents) : (s.modEvents p f).contexts = s.contexts := rfl
@[simp] theorem State.modEvents_gates (s : State) (p : PortId) (f : PortEvents → PortEvents) : (s.modEvents p f).gates = s.gates := rfl
@[simp] theorem State.modEvents_chain (s : State) (p : PortId) (f : PortEvents → PortEvents) : (s.modEvents p f).chain = s.chain := rfl
@[simp] theorem State.modEvents_ready (s : State) (p : PortId) (f : PortEvents → PortEvents) : (s.modEvents p f).ready = s.ready := rfl
@[simp] theorem State.modEvents_heldSet (s : State) (p : PortId) (f : PortEvents → PortEvents) : (s.modEvents p f).heldSet = s.heldSet := rfl
@[simp] theorem State.modEvents_lines (s : State) (p : PortId) (f : PortEvents → PortEvents) : (s.modEvents p f).lines = s.lines := rfl
@[simp] theorem State.modEvents_pins (s : State) (p : PortId) (f : PortEvents → PortEvents) : (s.modEvents p f).pins = s.pins := rfl
@[simp] theorem State.modEvents_timer (s : State) (p : PortId) (f : PortEvents → PortEvents) : (s.modEvents p f).timer = s.timer := rfl
@[simp] theorem State.modEvents_check (s : State) (p : PortId) (f : PortEvents → PortEvents) : (s.modEvents p f).check = s.check := rfl
@[simp] theorem State.modEvents_ports (s : State) (p : PortId) (f : PortEvents → PortEvents) : (s.modEvents p f).ports = s.ports := rfl
@[simp] theorem State.modEvents_pending (s : State) (p : PortId) (f : PortEvents → PortEvents) : (s.modEvents p f).pending = s.pending := rfl
@[simp] theorem State.modEvents_port (s : State) (p : PortId) (f : PortEvents → PortEvents) (q : PortId) :
    (s.modEvents p f).port q = s.port q := rfl
@[simp] theorem State.modEvents_level (s : State) (p : PortId) (f : PortEvents → PortEvents) (q : PortId) :
    (s.modEvents p f).level q = s.level q := rfl
@[simp] theorem State.modEvents_ctx (s : State) (p : PortId) (f : PortEvents → PortEvents) (d : ContextId) :
    (s.modEvents p f).ctx d = s.ctx d := rfl
@[simp] theorem State.modEvents_gate (s : State) (p : PortId) (f : PortEvents → PortEvents) (g : GateId) :
    (s.modEvents p f).gate g = s.gate g := rfl
@[simp] theorem State.modEvents_line (s : State) (p : PortId) (f : PortEvents → PortEvents) (m : LineId) :
    (s.modEvents p f).line m = s.line m := rfl
@[simp] theorem State.modEvents_entry (s : State) (p : PortId) (f : PortEvents → PortEvents) (q : PortId) (n : LogicalPage) :
    (s.modEvents p f).entry q n = s.entry q n := rfl
@[simp] theorem State.modEvents_entryFor (s : State) (p : PortId) (f : PortEvents → PortEvents) (q : PortId) (a : LogicalAddress) :
    (s.modEvents p f).entryFor q a = s.entryFor q a := rfl
@[simp] theorem State.modEvents_physical (s : State) (p : PortId) (f : PortEvents → PortEvents) (q : PortId) (a : LogicalAddress) :
    (s.modEvents p f).physical q a = s.physical q a := rfl
@[simp] theorem State.modEvents_faultsOf (s : State) (p : PortId) (f : PortEvents → PortEvents) (g : PhysicalPage) :
    (s.modEvents p f).faultsOf g = s.faultsOf g := rfl
@[simp] theorem State.modEvents_heldMark (s : State) (p : PortId) (f : PortEvents → PortEvents) (g : PhysicalPage) :
    (s.modEvents p f).heldMark g = s.heldMark g := rfl

/-! ### modFaults -/

@[simp] theorem State.modFaults_phase (s : State) (x : PhysicalPage) (f : FaultSet → FaultSet) : (s.modFaults x f).phase = s.phase := rfl
@[simp] theorem State.modFaults_words (s : State) (x : PhysicalPage) (f : FaultSet → FaultSet) : (s.modFaults x f).words = s.words := rfl
@[simp] theorem State.modFaults_heldMarks (s : State) (x : PhysicalPage) (f : FaultSet → FaultSet) : (s.modFaults x f).heldMarks = s.heldMarks := rfl
@[simp] theorem State.modFaults_offline (s : State) (x : PhysicalPage) (f : FaultSet → FaultSet) : (s.modFaults x f).offline = s.offline := rfl
@[simp] theorem State.modFaults_maps (s : State) (x : PhysicalPage) (f : FaultSet → FaultSet) : (s.modFaults x f).maps = s.maps := rfl
@[simp] theorem State.modFaults_contexts (s : State) (x : PhysicalPage) (f : FaultSet → FaultSet) : (s.modFaults x f).contexts = s.contexts := rfl
@[simp] theorem State.modFaults_gates (s : State) (x : PhysicalPage) (f : FaultSet → FaultSet) : (s.modFaults x f).gates = s.gates := rfl
@[simp] theorem State.modFaults_chain (s : State) (x : PhysicalPage) (f : FaultSet → FaultSet) : (s.modFaults x f).chain = s.chain := rfl
@[simp] theorem State.modFaults_ready (s : State) (x : PhysicalPage) (f : FaultSet → FaultSet) : (s.modFaults x f).ready = s.ready := rfl
@[simp] theorem State.modFaults_heldSet (s : State) (x : PhysicalPage) (f : FaultSet → FaultSet) : (s.modFaults x f).heldSet = s.heldSet := rfl
@[simp] theorem State.modFaults_lines (s : State) (x : PhysicalPage) (f : FaultSet → FaultSet) : (s.modFaults x f).lines = s.lines := rfl
@[simp] theorem State.modFaults_pins (s : State) (x : PhysicalPage) (f : FaultSet → FaultSet) : (s.modFaults x f).pins = s.pins := rfl
@[simp] theorem State.modFaults_timer (s : State) (x : PhysicalPage) (f : FaultSet → FaultSet) : (s.modFaults x f).timer = s.timer := rfl
@[simp] theorem State.modFaults_check (s : State) (x : PhysicalPage) (f : FaultSet → FaultSet) : (s.modFaults x f).check = s.check := rfl
@[simp] theorem State.modFaults_ports (s : State) (x : PhysicalPage) (f : FaultSet → FaultSet) : (s.modFaults x f).ports = s.ports := rfl
@[simp] theorem State.modFaults_events (s : State) (x : PhysicalPage) (f : FaultSet → FaultSet) : (s.modFaults x f).events = s.events := rfl
@[simp] theorem State.modFaults_pending (s : State) (x : PhysicalPage) (f : FaultSet → FaultSet) : (s.modFaults x f).pending = s.pending := rfl
@[simp] theorem State.modFaults_port (s : State) (x : PhysicalPage) (f : FaultSet → FaultSet) (q : PortId) :
    (s.modFaults x f).port q = s.port q := rfl
@[simp] theorem State.modFaults_level (s : State) (x : PhysicalPage) (f : FaultSet → FaultSet) (q : PortId) :
    (s.modFaults x f).level q = s.level q := rfl
@[simp] theorem State.modFaults_ctx (s : State) (x : PhysicalPage) (f : FaultSet → FaultSet) (d : ContextId) :
    (s.modFaults x f).ctx d = s.ctx d := rfl
@[simp] theorem State.modFaults_gate (s : State) (x : PhysicalPage) (f : FaultSet → FaultSet) (g : GateId) :
    (s.modFaults x f).gate g = s.gate g := rfl
@[simp] theorem State.modFaults_line (s : State) (x : PhysicalPage) (f : FaultSet → FaultSet) (m : LineId) :
    (s.modFaults x f).line m = s.line m := rfl
@[simp] theorem State.modFaults_eventsAt (s : State) (x : PhysicalPage) (f : FaultSet → FaultSet) (q : PortId) :
    (s.modFaults x f).eventsAt q = s.eventsAt q := rfl
@[simp] theorem State.modFaults_entry (s : State) (x : PhysicalPage) (f : FaultSet → FaultSet) (q : PortId) (n : LogicalPage) :
    (s.modFaults x f).entry q n = s.entry q n := rfl
@[simp] theorem State.modFaults_entryFor (s : State) (x : PhysicalPage) (f : FaultSet → FaultSet) (q : PortId) (a : LogicalAddress) :
    (s.modFaults x f).entryFor q a = s.entryFor q a := rfl
@[simp] theorem State.modFaults_physical (s : State) (x : PhysicalPage) (f : FaultSet → FaultSet) (q : PortId) (a : LogicalAddress) :
    (s.modFaults x f).physical q a = s.physical q a := rfl
@[simp] theorem State.modFaults_heldMark (s : State) (x : PhysicalPage) (f : FaultSet → FaultSet) (g : PhysicalPage) :
    (s.modFaults x f).heldMark g = s.heldMark g := rfl

/-! ### raiseAt -/

@[simp] theorem State.raiseAt_phase (s : State) (w : PortId → Bool) (f : FlagSet) : (s.raiseAt w f).phase = s.phase := rfl
@[simp] theorem State.raiseAt_words (s : State) (w : PortId → Bool) (f : FlagSet) : (s.raiseAt w f).words = s.words := rfl
@[simp] theorem State.raiseAt_faults (s : State) (w : PortId → Bool) (f : FlagSet) : (s.raiseAt w f).faults = s.faults := rfl
@[simp] theorem State.raiseAt_heldMarks (s : State) (w : PortId → Bool) (f : FlagSet) : (s.raiseAt w f).heldMarks = s.heldMarks := rfl
@[simp] theorem State.raiseAt_offline (s : State) (w : PortId → Bool) (f : FlagSet) : (s.raiseAt w f).offline = s.offline := rfl
@[simp] theorem State.raiseAt_maps (s : State) (w : PortId → Bool) (f : FlagSet) : (s.raiseAt w f).maps = s.maps := rfl
@[simp] theorem State.raiseAt_contexts (s : State) (w : PortId → Bool) (f : FlagSet) : (s.raiseAt w f).contexts = s.contexts := rfl
@[simp] theorem State.raiseAt_gates (s : State) (w : PortId → Bool) (f : FlagSet) : (s.raiseAt w f).gates = s.gates := rfl
@[simp] theorem State.raiseAt_chain (s : State) (w : PortId → Bool) (f : FlagSet) : (s.raiseAt w f).chain = s.chain := rfl
@[simp] theorem State.raiseAt_ready (s : State) (w : PortId → Bool) (f : FlagSet) : (s.raiseAt w f).ready = s.ready := rfl
@[simp] theorem State.raiseAt_heldSet (s : State) (w : PortId → Bool) (f : FlagSet) : (s.raiseAt w f).heldSet = s.heldSet := rfl
@[simp] theorem State.raiseAt_lines (s : State) (w : PortId → Bool) (f : FlagSet) : (s.raiseAt w f).lines = s.lines := rfl
@[simp] theorem State.raiseAt_pins (s : State) (w : PortId → Bool) (f : FlagSet) : (s.raiseAt w f).pins = s.pins := rfl
@[simp] theorem State.raiseAt_timer (s : State) (w : PortId → Bool) (f : FlagSet) : (s.raiseAt w f).timer = s.timer := rfl
@[simp] theorem State.raiseAt_check (s : State) (w : PortId → Bool) (f : FlagSet) : (s.raiseAt w f).check = s.check := rfl
@[simp] theorem State.raiseAt_ports (s : State) (w : PortId → Bool) (f : FlagSet) : (s.raiseAt w f).ports = s.ports := rfl
@[simp] theorem State.raiseAt_pending (s : State) (w : PortId → Bool) (f : FlagSet) : (s.raiseAt w f).pending = s.pending := rfl
@[simp] theorem State.raiseAt_port (s : State) (w : PortId → Bool) (f : FlagSet) (q : PortId) :
    (s.raiseAt w f).port q = s.port q := rfl
@[simp] theorem State.raiseAt_level (s : State) (w : PortId → Bool) (f : FlagSet) (q : PortId) :
    (s.raiseAt w f).level q = s.level q := rfl
@[simp] theorem State.raiseAt_ctx (s : State) (w : PortId → Bool) (f : FlagSet) (d : ContextId) :
    (s.raiseAt w f).ctx d = s.ctx d := rfl
@[simp] theorem State.raiseAt_gate (s : State) (w : PortId → Bool) (f : FlagSet) (g : GateId) :
    (s.raiseAt w f).gate g = s.gate g := rfl
@[simp] theorem State.raiseAt_line (s : State) (w : PortId → Bool) (f : FlagSet) (m : LineId) :
    (s.raiseAt w f).line m = s.line m := rfl
@[simp] theorem State.raiseAt_entry (s : State) (w : PortId → Bool) (f : FlagSet) (q : PortId) (n : LogicalPage) :
    (s.raiseAt w f).entry q n = s.entry q n := rfl
@[simp] theorem State.raiseAt_entryFor (s : State) (w : PortId → Bool) (f : FlagSet) (q : PortId) (a : LogicalAddress) :
    (s.raiseAt w f).entryFor q a = s.entryFor q a := rfl
@[simp] theorem State.raiseAt_physical (s : State) (w : PortId → Bool) (f : FlagSet) (q : PortId) (a : LogicalAddress) :
    (s.raiseAt w f).physical q a = s.physical q a := rfl
@[simp] theorem State.raiseAt_faultsOf (s : State) (w : PortId → Bool) (f : FlagSet) (g : PhysicalPage) :
    (s.raiseAt w f).faultsOf g = s.faultsOf g := rfl
@[simp] theorem State.raiseAt_heldMark (s : State) (w : PortId → Bool) (f : FlagSet) (g : PhysicalPage) :
    (s.raiseAt w f).heldMark g = s.heldMark g := rfl

/-! ### freeSlots -/

@[simp] theorem State.freeSlots_phase (s : State) (w : ContextId → Bool) : (s.freeSlots w).phase = s.phase := by unfold State.freeSlots; rfl
@[simp] theorem State.freeSlots_words (s : State) (w : ContextId → Bool) : (s.freeSlots w).words = s.words := by unfold State.freeSlots; rfl
@[simp] theorem State.freeSlots_faults (s : State) (w : ContextId → Bool) : (s.freeSlots w).faults = s.faults := by unfold State.freeSlots; rfl
@[simp] theorem State.freeSlots_heldMarks (s : State) (w : ContextId → Bool) : (s.freeSlots w).heldMarks = s.heldMarks := by unfold State.freeSlots; rfl
@[simp] theorem State.freeSlots_offline (s : State) (w : ContextId → Bool) : (s.freeSlots w).offline = s.offline := by unfold State.freeSlots; rfl
@[simp] theorem State.freeSlots_maps (s : State) (w : ContextId → Bool) : (s.freeSlots w).maps = s.maps := by unfold State.freeSlots; rfl
@[simp] theorem State.freeSlots_gates (s : State) (w : ContextId → Bool) : (s.freeSlots w).gates = s.gates := by unfold State.freeSlots; rfl
@[simp] theorem State.freeSlots_chain (s : State) (w : ContextId → Bool) : (s.freeSlots w).chain = s.chain := by unfold State.freeSlots; rfl
@[simp] theorem State.freeSlots_ready (s : State) (w : ContextId → Bool) : (s.freeSlots w).ready = s.ready := by unfold State.freeSlots; rfl
@[simp] theorem State.freeSlots_heldSet (s : State) (w : ContextId → Bool) : (s.freeSlots w).heldSet = s.heldSet := by unfold State.freeSlots; rfl
@[simp] theorem State.freeSlots_pins (s : State) (w : ContextId → Bool) : (s.freeSlots w).pins = s.pins := by unfold State.freeSlots; rfl
@[simp] theorem State.freeSlots_timer (s : State) (w : ContextId → Bool) : (s.freeSlots w).timer = s.timer := by unfold State.freeSlots; rfl
@[simp] theorem State.freeSlots_check (s : State) (w : ContextId → Bool) : (s.freeSlots w).check = s.check := by unfold State.freeSlots; rfl
@[simp] theorem State.freeSlots_ports (s : State) (w : ContextId → Bool) : (s.freeSlots w).ports = s.ports := by unfold State.freeSlots; rfl
@[simp] theorem State.freeSlots_pending (s : State) (w : ContextId → Bool) : (s.freeSlots w).pending = s.pending := by unfold State.freeSlots; rfl
@[simp] theorem State.freeSlots_port (s : State) (w : ContextId → Bool) (q : PortId) :
    (s.freeSlots w).port q = s.port q := by
  unfold State.freeSlots State.port; rfl
@[simp] theorem State.freeSlots_level (s : State) (w : ContextId → Bool) (q : PortId) :
    (s.freeSlots w).level q = s.level q := by
  unfold State.freeSlots State.level State.port; rfl
@[simp] theorem State.freeSlots_gate (s : State) (w : ContextId → Bool) (g : GateId) :
    (s.freeSlots w).gate g = s.gate g := by
  unfold State.freeSlots State.gate; rfl
@[simp] theorem State.freeSlots_entry (s : State) (w : ContextId → Bool) (q : PortId) (n : LogicalPage) :
    (s.freeSlots w).entry q n = s.entry q n := by
  unfold State.freeSlots State.entry; rfl
@[simp] theorem State.freeSlots_entryFor (s : State) (w : ContextId → Bool) (q : PortId) (a : LogicalAddress) :
    (s.freeSlots w).entryFor q a = s.entryFor q a := by
  unfold State.freeSlots State.entryFor State.entry; rfl
@[simp] theorem State.freeSlots_physical (s : State) (w : ContextId → Bool) (q : PortId) (a : LogicalAddress) :
    (s.freeSlots w).physical q a = s.physical q a := by
  unfold State.freeSlots State.physical State.entryFor State.entry; rfl
@[simp] theorem State.freeSlots_faultsOf (s : State) (w : ContextId → Bool) (g : PhysicalPage) :
    (s.freeSlots w).faultsOf g = s.faultsOf g := by
  unfold State.freeSlots State.faultsOf; rfl
@[simp] theorem State.freeSlots_heldMark (s : State) (w : ContextId → Bool) (g : PhysicalPage) :
    (s.freeSlots w).heldMark g = s.heldMark g := by
  unfold State.freeSlots State.heldMark; rfl

/-! ### answer -/

@[simp] theorem State.answer_phase (s : State) (p : PortId) (code : Byte) (st : Status) (rs : List Byte) : (s.answer p code st rs).phase = s.phase := rfl
@[simp] theorem State.answer_words (s : State) (p : PortId) (code : Byte) (st : Status) (rs : List Byte) : (s.answer p code st rs).words = s.words := rfl
@[simp] theorem State.answer_faults (s : State) (p : PortId) (code : Byte) (st : Status) (rs : List Byte) : (s.answer p code st rs).faults = s.faults := rfl
@[simp] theorem State.answer_heldMarks (s : State) (p : PortId) (code : Byte) (st : Status) (rs : List Byte) : (s.answer p code st rs).heldMarks = s.heldMarks := rfl
@[simp] theorem State.answer_offline (s : State) (p : PortId) (code : Byte) (st : Status) (rs : List Byte) : (s.answer p code st rs).offline = s.offline := rfl
@[simp] theorem State.answer_maps (s : State) (p : PortId) (code : Byte) (st : Status) (rs : List Byte) : (s.answer p code st rs).maps = s.maps := rfl
@[simp] theorem State.answer_contexts (s : State) (p : PortId) (code : Byte) (st : Status) (rs : List Byte) : (s.answer p code st rs).contexts = s.contexts := rfl
@[simp] theorem State.answer_gates (s : State) (p : PortId) (code : Byte) (st : Status) (rs : List Byte) : (s.answer p code st rs).gates = s.gates := rfl
@[simp] theorem State.answer_chain (s : State) (p : PortId) (code : Byte) (st : Status) (rs : List Byte) : (s.answer p code st rs).chain = s.chain := rfl
@[simp] theorem State.answer_ready (s : State) (p : PortId) (code : Byte) (st : Status) (rs : List Byte) : (s.answer p code st rs).ready = s.ready := rfl
@[simp] theorem State.answer_heldSet (s : State) (p : PortId) (code : Byte) (st : Status) (rs : List Byte) : (s.answer p code st rs).heldSet = s.heldSet := rfl
@[simp] theorem State.answer_lines (s : State) (p : PortId) (code : Byte) (st : Status) (rs : List Byte) : (s.answer p code st rs).lines = s.lines := rfl
@[simp] theorem State.answer_pins (s : State) (p : PortId) (code : Byte) (st : Status) (rs : List Byte) : (s.answer p code st rs).pins = s.pins := rfl
@[simp] theorem State.answer_timer (s : State) (p : PortId) (code : Byte) (st : Status) (rs : List Byte) : (s.answer p code st rs).timer = s.timer := rfl
@[simp] theorem State.answer_check (s : State) (p : PortId) (code : Byte) (st : Status) (rs : List Byte) : (s.answer p code st rs).check = s.check := rfl
@[simp] theorem State.answer_events (s : State) (p : PortId) (code : Byte) (st : Status) (rs : List Byte) : (s.answer p code st rs).events = s.events := rfl
@[simp] theorem State.answer_pending (s : State) (p : PortId) (code : Byte) (st : Status) (rs : List Byte) : (s.answer p code st rs).pending = s.pending := rfl
@[simp] theorem State.answer_ctx (s : State) (p : PortId) (code : Byte) (st : Status) (rs : List Byte) (d : ContextId) :
    (s.answer p code st rs).ctx d = s.ctx d := rfl
@[simp] theorem State.answer_gate (s : State) (p : PortId) (code : Byte) (st : Status) (rs : List Byte) (g : GateId) :
    (s.answer p code st rs).gate g = s.gate g := rfl
@[simp] theorem State.answer_line (s : State) (p : PortId) (code : Byte) (st : Status) (rs : List Byte) (m : LineId) :
    (s.answer p code st rs).line m = s.line m := rfl
@[simp] theorem State.answer_eventsAt (s : State) (p : PortId) (code : Byte) (st : Status) (rs : List Byte) (q : PortId) :
    (s.answer p code st rs).eventsAt q = s.eventsAt q := rfl
@[simp] theorem State.answer_entry (s : State) (p : PortId) (code : Byte) (st : Status) (rs : List Byte) (q : PortId) (n : LogicalPage) :
    (s.answer p code st rs).entry q n = s.entry q n := rfl
@[simp] theorem State.answer_entryFor (s : State) (p : PortId) (code : Byte) (st : Status) (rs : List Byte) (q : PortId) (a : LogicalAddress) :
    (s.answer p code st rs).entryFor q a = s.entryFor q a := rfl
@[simp] theorem State.answer_physical (s : State) (p : PortId) (code : Byte) (st : Status) (rs : List Byte) (q : PortId) (a : LogicalAddress) :
    (s.answer p code st rs).physical q a = s.physical q a := rfl
@[simp] theorem State.answer_faultsOf (s : State) (p : PortId) (code : Byte) (st : Status) (rs : List Byte) (g : PhysicalPage) :
    (s.answer p code st rs).faultsOf g = s.faultsOf g := rfl
@[simp] theorem State.answer_heldMark (s : State) (p : PortId) (code : Byte) (st : Status) (rs : List Byte) (g : PhysicalPage) :
    (s.answer p code st rs).heldMark g = s.heldMark g := rfl

/-! ### refuse -/

@[simp] theorem State.refuse_phase (s : State) (p : PortId) (code : Byte) (st : Status) : (s.refuse p code st).phase = s.phase := rfl
@[simp] theorem State.refuse_words (s : State) (p : PortId) (code : Byte) (st : Status) : (s.refuse p code st).words = s.words := rfl
@[simp] theorem State.refuse_faults (s : State) (p : PortId) (code : Byte) (st : Status) : (s.refuse p code st).faults = s.faults := rfl
@[simp] theorem State.refuse_heldMarks (s : State) (p : PortId) (code : Byte) (st : Status) : (s.refuse p code st).heldMarks = s.heldMarks := rfl
@[simp] theorem State.refuse_offline (s : State) (p : PortId) (code : Byte) (st : Status) : (s.refuse p code st).offline = s.offline := rfl
@[simp] theorem State.refuse_maps (s : State) (p : PortId) (code : Byte) (st : Status) : (s.refuse p code st).maps = s.maps := rfl
@[simp] theorem State.refuse_contexts (s : State) (p : PortId) (code : Byte) (st : Status) : (s.refuse p code st).contexts = s.contexts := rfl
@[simp] theorem State.refuse_gates (s : State) (p : PortId) (code : Byte) (st : Status) : (s.refuse p code st).gates = s.gates := rfl
@[simp] theorem State.refuse_chain (s : State) (p : PortId) (code : Byte) (st : Status) : (s.refuse p code st).chain = s.chain := rfl
@[simp] theorem State.refuse_ready (s : State) (p : PortId) (code : Byte) (st : Status) : (s.refuse p code st).ready = s.ready := rfl
@[simp] theorem State.refuse_heldSet (s : State) (p : PortId) (code : Byte) (st : Status) : (s.refuse p code st).heldSet = s.heldSet := rfl
@[simp] theorem State.refuse_lines (s : State) (p : PortId) (code : Byte) (st : Status) : (s.refuse p code st).lines = s.lines := rfl
@[simp] theorem State.refuse_pins (s : State) (p : PortId) (code : Byte) (st : Status) : (s.refuse p code st).pins = s.pins := rfl
@[simp] theorem State.refuse_timer (s : State) (p : PortId) (code : Byte) (st : Status) : (s.refuse p code st).timer = s.timer := rfl
@[simp] theorem State.refuse_check (s : State) (p : PortId) (code : Byte) (st : Status) : (s.refuse p code st).check = s.check := rfl
@[simp] theorem State.refuse_events (s : State) (p : PortId) (code : Byte) (st : Status) : (s.refuse p code st).events = s.events := rfl
@[simp] theorem State.refuse_pending (s : State) (p : PortId) (code : Byte) (st : Status) : (s.refuse p code st).pending = s.pending := rfl
@[simp] theorem State.refuse_ctx (s : State) (p : PortId) (code : Byte) (st : Status) (d : ContextId) :
    (s.refuse p code st).ctx d = s.ctx d := rfl
@[simp] theorem State.refuse_gate (s : State) (p : PortId) (code : Byte) (st : Status) (g : GateId) :
    (s.refuse p code st).gate g = s.gate g := rfl
@[simp] theorem State.refuse_line (s : State) (p : PortId) (code : Byte) (st : Status) (m : LineId) :
    (s.refuse p code st).line m = s.line m := rfl
@[simp] theorem State.refuse_eventsAt (s : State) (p : PortId) (code : Byte) (st : Status) (q : PortId) :
    (s.refuse p code st).eventsAt q = s.eventsAt q := rfl
@[simp] theorem State.refuse_entry (s : State) (p : PortId) (code : Byte) (st : Status) (q : PortId) (n : LogicalPage) :
    (s.refuse p code st).entry q n = s.entry q n := rfl
@[simp] theorem State.refuse_entryFor (s : State) (p : PortId) (code : Byte) (st : Status) (q : PortId) (a : LogicalAddress) :
    (s.refuse p code st).entryFor q a = s.entryFor q a := rfl
@[simp] theorem State.refuse_physical (s : State) (p : PortId) (code : Byte) (st : Status) (q : PortId) (a : LogicalAddress) :
    (s.refuse p code st).physical q a = s.physical q a := rfl
@[simp] theorem State.refuse_faultsOf (s : State) (p : PortId) (code : Byte) (st : Status) (g : PhysicalPage) :
    (s.refuse p code st).faultsOf g = s.faultsOf g := rfl
@[simp] theorem State.refuse_heldMark (s : State) (p : PortId) (code : Byte) (st : Status) (g : PhysicalPage) :
    (s.refuse p code st).heldMark g = s.heldMark g := rfl

/-! ### postNotice -/

@[simp] theorem State.postNotice_phase (s : State) (c : ContextId) (o : Ending) : (s.postNotice c o).phase = s.phase := rfl
@[simp] theorem State.postNotice_words (s : State) (c : ContextId) (o : Ending) : (s.postNotice c o).words = s.words := rfl
@[simp] theorem State.postNotice_faults (s : State) (c : ContextId) (o : Ending) : (s.postNotice c o).faults = s.faults := rfl
@[simp] theorem State.postNotice_heldMarks (s : State) (c : ContextId) (o : Ending) : (s.postNotice c o).heldMarks = s.heldMarks := rfl
@[simp] theorem State.postNotice_offline (s : State) (c : ContextId) (o : Ending) : (s.postNotice c o).offline = s.offline := rfl
@[simp] theorem State.postNotice_maps (s : State) (c : ContextId) (o : Ending) : (s.postNotice c o).maps = s.maps := rfl
@[simp] theorem State.postNotice_contexts (s : State) (c : ContextId) (o : Ending) : (s.postNotice c o).contexts = s.contexts := rfl
@[simp] theorem State.postNotice_gates (s : State) (c : ContextId) (o : Ending) : (s.postNotice c o).gates = s.gates := rfl
@[simp] theorem State.postNotice_chain (s : State) (c : ContextId) (o : Ending) : (s.postNotice c o).chain = s.chain := rfl
@[simp] theorem State.postNotice_ready (s : State) (c : ContextId) (o : Ending) : (s.postNotice c o).ready = s.ready := rfl
@[simp] theorem State.postNotice_heldSet (s : State) (c : ContextId) (o : Ending) : (s.postNotice c o).heldSet = s.heldSet := rfl
@[simp] theorem State.postNotice_lines (s : State) (c : ContextId) (o : Ending) : (s.postNotice c o).lines = s.lines := rfl
@[simp] theorem State.postNotice_pins (s : State) (c : ContextId) (o : Ending) : (s.postNotice c o).pins = s.pins := rfl
@[simp] theorem State.postNotice_timer (s : State) (c : ContextId) (o : Ending) : (s.postNotice c o).timer = s.timer := rfl
@[simp] theorem State.postNotice_check (s : State) (c : ContextId) (o : Ending) : (s.postNotice c o).check = s.check := rfl
@[simp] theorem State.postNotice_ports (s : State) (c : ContextId) (o : Ending) : (s.postNotice c o).ports = s.ports := rfl
@[simp] theorem State.postNotice_pending (s : State) (c : ContextId) (o : Ending) : (s.postNotice c o).pending = s.pending := rfl
@[simp] theorem State.postNotice_port (s : State) (c : ContextId) (o : Ending) (q : PortId) :
    (s.postNotice c o).port q = s.port q := rfl
@[simp] theorem State.postNotice_level (s : State) (c : ContextId) (o : Ending) (q : PortId) :
    (s.postNotice c o).level q = s.level q := rfl
@[simp] theorem State.postNotice_ctx (s : State) (c : ContextId) (o : Ending) (d : ContextId) :
    (s.postNotice c o).ctx d = s.ctx d := rfl
@[simp] theorem State.postNotice_gate (s : State) (c : ContextId) (o : Ending) (g : GateId) :
    (s.postNotice c o).gate g = s.gate g := rfl
@[simp] theorem State.postNotice_line (s : State) (c : ContextId) (o : Ending) (m : LineId) :
    (s.postNotice c o).line m = s.line m := rfl
@[simp] theorem State.postNotice_entry (s : State) (c : ContextId) (o : Ending) (q : PortId) (n : LogicalPage) :
    (s.postNotice c o).entry q n = s.entry q n := rfl
@[simp] theorem State.postNotice_entryFor (s : State) (c : ContextId) (o : Ending) (q : PortId) (a : LogicalAddress) :
    (s.postNotice c o).entryFor q a = s.entryFor q a := rfl
@[simp] theorem State.postNotice_physical (s : State) (c : ContextId) (o : Ending) (q : PortId) (a : LogicalAddress) :
    (s.postNotice c o).physical q a = s.physical q a := rfl
@[simp] theorem State.postNotice_faultsOf (s : State) (c : ContextId) (o : Ending) (g : PhysicalPage) :
    (s.postNotice c o).faultsOf g = s.faultsOf g := rfl
@[simp] theorem State.postNotice_heldMark (s : State) (c : ContextId) (o : Ending) (g : PhysicalPage) :
    (s.postNotice c o).heldMark g = s.heldMark g := rfl

/-! ### modCheck -/

@[simp] theorem State.modCheck_phase (s : State) (f : CheckRecord → CheckRecord) : (s.modCheck f).phase = s.phase := rfl
@[simp] theorem State.modCheck_words (s : State) (f : CheckRecord → CheckRecord) : (s.modCheck f).words = s.words := rfl
@[simp] theorem State.modCheck_faults (s : State) (f : CheckRecord → CheckRecord) : (s.modCheck f).faults = s.faults := rfl
@[simp] theorem State.modCheck_heldMarks (s : State) (f : CheckRecord → CheckRecord) : (s.modCheck f).heldMarks = s.heldMarks := rfl
@[simp] theorem State.modCheck_offline (s : State) (f : CheckRecord → CheckRecord) : (s.modCheck f).offline = s.offline := rfl
@[simp] theorem State.modCheck_maps (s : State) (f : CheckRecord → CheckRecord) : (s.modCheck f).maps = s.maps := rfl
@[simp] theorem State.modCheck_contexts (s : State) (f : CheckRecord → CheckRecord) : (s.modCheck f).contexts = s.contexts := rfl
@[simp] theorem State.modCheck_gates (s : State) (f : CheckRecord → CheckRecord) : (s.modCheck f).gates = s.gates := rfl
@[simp] theorem State.modCheck_chain (s : State) (f : CheckRecord → CheckRecord) : (s.modCheck f).chain = s.chain := rfl
@[simp] theorem State.modCheck_ready (s : State) (f : CheckRecord → CheckRecord) : (s.modCheck f).ready = s.ready := rfl
@[simp] theorem State.modCheck_heldSet (s : State) (f : CheckRecord → CheckRecord) : (s.modCheck f).heldSet = s.heldSet := rfl
@[simp] theorem State.modCheck_lines (s : State) (f : CheckRecord → CheckRecord) : (s.modCheck f).lines = s.lines := rfl
@[simp] theorem State.modCheck_pins (s : State) (f : CheckRecord → CheckRecord) : (s.modCheck f).pins = s.pins := rfl
@[simp] theorem State.modCheck_timer (s : State) (f : CheckRecord → CheckRecord) : (s.modCheck f).timer = s.timer := rfl
@[simp] theorem State.modCheck_ports (s : State) (f : CheckRecord → CheckRecord) : (s.modCheck f).ports = s.ports := rfl
@[simp] theorem State.modCheck_events (s : State) (f : CheckRecord → CheckRecord) : (s.modCheck f).events = s.events := rfl
@[simp] theorem State.modCheck_pending (s : State) (f : CheckRecord → CheckRecord) : (s.modCheck f).pending = s.pending := rfl
@[simp] theorem State.modCheck_port (s : State) (f : CheckRecord → CheckRecord) (q : PortId) :
    (s.modCheck f).port q = s.port q := rfl
@[simp] theorem State.modCheck_level (s : State) (f : CheckRecord → CheckRecord) (q : PortId) :
    (s.modCheck f).level q = s.level q := rfl
@[simp] theorem State.modCheck_ctx (s : State) (f : CheckRecord → CheckRecord) (d : ContextId) :
    (s.modCheck f).ctx d = s.ctx d := rfl
@[simp] theorem State.modCheck_gate (s : State) (f : CheckRecord → CheckRecord) (g : GateId) :
    (s.modCheck f).gate g = s.gate g := rfl
@[simp] theorem State.modCheck_line (s : State) (f : CheckRecord → CheckRecord) (m : LineId) :
    (s.modCheck f).line m = s.line m := rfl
@[simp] theorem State.modCheck_eventsAt (s : State) (f : CheckRecord → CheckRecord) (q : PortId) :
    (s.modCheck f).eventsAt q = s.eventsAt q := rfl
@[simp] theorem State.modCheck_entry (s : State) (f : CheckRecord → CheckRecord) (q : PortId) (n : LogicalPage) :
    (s.modCheck f).entry q n = s.entry q n := rfl
@[simp] theorem State.modCheck_entryFor (s : State) (f : CheckRecord → CheckRecord) (q : PortId) (a : LogicalAddress) :
    (s.modCheck f).entryFor q a = s.entryFor q a := rfl
@[simp] theorem State.modCheck_physical (s : State) (f : CheckRecord → CheckRecord) (q : PortId) (a : LogicalAddress) :
    (s.modCheck f).physical q a = s.physical q a := rfl
@[simp] theorem State.modCheck_faultsOf (s : State) (f : CheckRecord → CheckRecord) (g : PhysicalPage) :
    (s.modCheck f).faultsOf g = s.faultsOf g := rfl
@[simp] theorem State.modCheck_heldMark (s : State) (f : CheckRecord → CheckRecord) (g : PhysicalPage) :
    (s.modCheck f).heldMark g = s.heldMark g := rfl

/-! ### setPin -/

@[simp] theorem State.setPin_phase (s : State) (l : LineId) (v : PinLevel) : (s.setPin l v).phase = s.phase := rfl
@[simp] theorem State.setPin_words (s : State) (l : LineId) (v : PinLevel) : (s.setPin l v).words = s.words := rfl
@[simp] theorem State.setPin_faults (s : State) (l : LineId) (v : PinLevel) : (s.setPin l v).faults = s.faults := rfl
@[simp] theorem State.setPin_heldMarks (s : State) (l : LineId) (v : PinLevel) : (s.setPin l v).heldMarks = s.heldMarks := rfl
@[simp] theorem State.setPin_offline (s : State) (l : LineId) (v : PinLevel) : (s.setPin l v).offline = s.offline := rfl
@[simp] theorem State.setPin_maps (s : State) (l : LineId) (v : PinLevel) : (s.setPin l v).maps = s.maps := rfl
@[simp] theorem State.setPin_contexts (s : State) (l : LineId) (v : PinLevel) : (s.setPin l v).contexts = s.contexts := rfl
@[simp] theorem State.setPin_gates (s : State) (l : LineId) (v : PinLevel) : (s.setPin l v).gates = s.gates := rfl
@[simp] theorem State.setPin_chain (s : State) (l : LineId) (v : PinLevel) : (s.setPin l v).chain = s.chain := rfl
@[simp] theorem State.setPin_ready (s : State) (l : LineId) (v : PinLevel) : (s.setPin l v).ready = s.ready := rfl
@[simp] theorem State.setPin_heldSet (s : State) (l : LineId) (v : PinLevel) : (s.setPin l v).heldSet = s.heldSet := rfl
@[simp] theorem State.setPin_lines (s : State) (l : LineId) (v : PinLevel) : (s.setPin l v).lines = s.lines := rfl
@[simp] theorem State.setPin_timer (s : State) (l : LineId) (v : PinLevel) : (s.setPin l v).timer = s.timer := rfl
@[simp] theorem State.setPin_check (s : State) (l : LineId) (v : PinLevel) : (s.setPin l v).check = s.check := rfl
@[simp] theorem State.setPin_ports (s : State) (l : LineId) (v : PinLevel) : (s.setPin l v).ports = s.ports := rfl
@[simp] theorem State.setPin_events (s : State) (l : LineId) (v : PinLevel) : (s.setPin l v).events = s.events := rfl
@[simp] theorem State.setPin_pending (s : State) (l : LineId) (v : PinLevel) : (s.setPin l v).pending = s.pending := rfl
@[simp] theorem State.setPin_port (s : State) (l : LineId) (v : PinLevel) (q : PortId) :
    (s.setPin l v).port q = s.port q := rfl
@[simp] theorem State.setPin_level (s : State) (l : LineId) (v : PinLevel) (q : PortId) :
    (s.setPin l v).level q = s.level q := rfl
@[simp] theorem State.setPin_ctx (s : State) (l : LineId) (v : PinLevel) (d : ContextId) :
    (s.setPin l v).ctx d = s.ctx d := rfl
@[simp] theorem State.setPin_gate (s : State) (l : LineId) (v : PinLevel) (g : GateId) :
    (s.setPin l v).gate g = s.gate g := rfl
@[simp] theorem State.setPin_line (s : State) (l : LineId) (v : PinLevel) (m : LineId) :
    (s.setPin l v).line m = s.line m := rfl
@[simp] theorem State.setPin_eventsAt (s : State) (l : LineId) (v : PinLevel) (q : PortId) :
    (s.setPin l v).eventsAt q = s.eventsAt q := rfl
@[simp] theorem State.setPin_entry (s : State) (l : LineId) (v : PinLevel) (q : PortId) (n : LogicalPage) :
    (s.setPin l v).entry q n = s.entry q n := rfl
@[simp] theorem State.setPin_entryFor (s : State) (l : LineId) (v : PinLevel) (q : PortId) (a : LogicalAddress) :
    (s.setPin l v).entryFor q a = s.entryFor q a := rfl
@[simp] theorem State.setPin_physical (s : State) (l : LineId) (v : PinLevel) (q : PortId) (a : LogicalAddress) :
    (s.setPin l v).physical q a = s.physical q a := rfl
@[simp] theorem State.setPin_faultsOf (s : State) (l : LineId) (v : PinLevel) (g : PhysicalPage) :
    (s.setPin l v).faultsOf g = s.faultsOf g := rfl
@[simp] theorem State.setPin_heldMark (s : State) (l : LineId) (v : PinLevel) (g : PhysicalPage) :
    (s.setPin l v).heldMark g = s.heldMark g := rfl

/-! ### continueRun -/

@[simp] theorem State.continueRun_phase (s : State) (p : PortId) (r : DataRun) : (s.continueRun p r).phase = s.phase := rfl
@[simp] theorem State.continueRun_words (s : State) (p : PortId) (r : DataRun) : (s.continueRun p r).words = s.words := rfl
@[simp] theorem State.continueRun_faults (s : State) (p : PortId) (r : DataRun) : (s.continueRun p r).faults = s.faults := rfl
@[simp] theorem State.continueRun_heldMarks (s : State) (p : PortId) (r : DataRun) : (s.continueRun p r).heldMarks = s.heldMarks := rfl
@[simp] theorem State.continueRun_offline (s : State) (p : PortId) (r : DataRun) : (s.continueRun p r).offline = s.offline := rfl
@[simp] theorem State.continueRun_maps (s : State) (p : PortId) (r : DataRun) : (s.continueRun p r).maps = s.maps := rfl
@[simp] theorem State.continueRun_contexts (s : State) (p : PortId) (r : DataRun) : (s.continueRun p r).contexts = s.contexts := rfl
@[simp] theorem State.continueRun_gates (s : State) (p : PortId) (r : DataRun) : (s.continueRun p r).gates = s.gates := rfl
@[simp] theorem State.continueRun_chain (s : State) (p : PortId) (r : DataRun) : (s.continueRun p r).chain = s.chain := rfl
@[simp] theorem State.continueRun_ready (s : State) (p : PortId) (r : DataRun) : (s.continueRun p r).ready = s.ready := rfl
@[simp] theorem State.continueRun_heldSet (s : State) (p : PortId) (r : DataRun) : (s.continueRun p r).heldSet = s.heldSet := rfl
@[simp] theorem State.continueRun_lines (s : State) (p : PortId) (r : DataRun) : (s.continueRun p r).lines = s.lines := rfl
@[simp] theorem State.continueRun_pins (s : State) (p : PortId) (r : DataRun) : (s.continueRun p r).pins = s.pins := rfl
@[simp] theorem State.continueRun_timer (s : State) (p : PortId) (r : DataRun) : (s.continueRun p r).timer = s.timer := rfl
@[simp] theorem State.continueRun_check (s : State) (p : PortId) (r : DataRun) : (s.continueRun p r).check = s.check := rfl
@[simp] theorem State.continueRun_events (s : State) (p : PortId) (r : DataRun) : (s.continueRun p r).events = s.events := rfl
@[simp] theorem State.continueRun_pending (s : State) (p : PortId) (r : DataRun) : (s.continueRun p r).pending = s.pending := rfl
@[simp] theorem State.continueRun_ctx (s : State) (p : PortId) (r : DataRun) (d : ContextId) :
    (s.continueRun p r).ctx d = s.ctx d := rfl
@[simp] theorem State.continueRun_gate (s : State) (p : PortId) (r : DataRun) (g : GateId) :
    (s.continueRun p r).gate g = s.gate g := rfl
@[simp] theorem State.continueRun_line (s : State) (p : PortId) (r : DataRun) (m : LineId) :
    (s.continueRun p r).line m = s.line m := rfl
@[simp] theorem State.continueRun_eventsAt (s : State) (p : PortId) (r : DataRun) (q : PortId) :
    (s.continueRun p r).eventsAt q = s.eventsAt q := rfl
@[simp] theorem State.continueRun_entry (s : State) (p : PortId) (r : DataRun) (q : PortId) (n : LogicalPage) :
    (s.continueRun p r).entry q n = s.entry q n := rfl
@[simp] theorem State.continueRun_entryFor (s : State) (p : PortId) (r : DataRun) (q : PortId) (a : LogicalAddress) :
    (s.continueRun p r).entryFor q a = s.entryFor q a := rfl
@[simp] theorem State.continueRun_physical (s : State) (p : PortId) (r : DataRun) (q : PortId) (a : LogicalAddress) :
    (s.continueRun p r).physical q a = s.physical q a := rfl
@[simp] theorem State.continueRun_faultsOf (s : State) (p : PortId) (r : DataRun) (g : PhysicalPage) :
    (s.continueRun p r).faultsOf g = s.faultsOf g := rfl
@[simp] theorem State.continueRun_heldMark (s : State) (p : PortId) (r : DataRun) (g : PhysicalPage) :
    (s.continueRun p r).heldMark g = s.heldMark g := rfl

/-! ### withPending -/

@[simp] theorem State.withPending_phase (s : State) (queue : List Instr) : (s.withPending queue).phase = s.phase := rfl
@[simp] theorem State.withPending_words (s : State) (queue : List Instr) : (s.withPending queue).words = s.words := rfl
@[simp] theorem State.withPending_faults (s : State) (queue : List Instr) : (s.withPending queue).faults = s.faults := rfl
@[simp] theorem State.withPending_heldMarks (s : State) (queue : List Instr) : (s.withPending queue).heldMarks = s.heldMarks := rfl
@[simp] theorem State.withPending_offline (s : State) (queue : List Instr) : (s.withPending queue).offline = s.offline := rfl
@[simp] theorem State.withPending_maps (s : State) (queue : List Instr) : (s.withPending queue).maps = s.maps := rfl
@[simp] theorem State.withPending_contexts (s : State) (queue : List Instr) : (s.withPending queue).contexts = s.contexts := rfl
@[simp] theorem State.withPending_gates (s : State) (queue : List Instr) : (s.withPending queue).gates = s.gates := rfl
@[simp] theorem State.withPending_chain (s : State) (queue : List Instr) : (s.withPending queue).chain = s.chain := rfl
@[simp] theorem State.withPending_ready (s : State) (queue : List Instr) : (s.withPending queue).ready = s.ready := rfl
@[simp] theorem State.withPending_heldSet (s : State) (queue : List Instr) : (s.withPending queue).heldSet = s.heldSet := rfl
@[simp] theorem State.withPending_lines (s : State) (queue : List Instr) : (s.withPending queue).lines = s.lines := rfl
@[simp] theorem State.withPending_pins (s : State) (queue : List Instr) : (s.withPending queue).pins = s.pins := rfl
@[simp] theorem State.withPending_timer (s : State) (queue : List Instr) : (s.withPending queue).timer = s.timer := rfl
@[simp] theorem State.withPending_check (s : State) (queue : List Instr) : (s.withPending queue).check = s.check := rfl
@[simp] theorem State.withPending_ports (s : State) (queue : List Instr) : (s.withPending queue).ports = s.ports := rfl
@[simp] theorem State.withPending_events (s : State) (queue : List Instr) : (s.withPending queue).events = s.events := rfl
@[simp] theorem State.withPending_port (s : State) (queue : List Instr) (q : PortId) :
    (s.withPending queue).port q = s.port q := rfl
@[simp] theorem State.withPending_level (s : State) (queue : List Instr) (q : PortId) :
    (s.withPending queue).level q = s.level q := rfl
@[simp] theorem State.withPending_ctx (s : State) (queue : List Instr) (d : ContextId) :
    (s.withPending queue).ctx d = s.ctx d := rfl
@[simp] theorem State.withPending_gate (s : State) (queue : List Instr) (g : GateId) :
    (s.withPending queue).gate g = s.gate g := rfl
@[simp] theorem State.withPending_line (s : State) (queue : List Instr) (m : LineId) :
    (s.withPending queue).line m = s.line m := rfl
@[simp] theorem State.withPending_eventsAt (s : State) (queue : List Instr) (q : PortId) :
    (s.withPending queue).eventsAt q = s.eventsAt q := rfl
@[simp] theorem State.withPending_entry (s : State) (queue : List Instr) (q : PortId) (n : LogicalPage) :
    (s.withPending queue).entry q n = s.entry q n := rfl
@[simp] theorem State.withPending_entryFor (s : State) (queue : List Instr) (q : PortId) (a : LogicalAddress) :
    (s.withPending queue).entryFor q a = s.entryFor q a := rfl
@[simp] theorem State.withPending_physical (s : State) (queue : List Instr) (q : PortId) (a : LogicalAddress) :
    (s.withPending queue).physical q a = s.physical q a := rfl
@[simp] theorem State.withPending_faultsOf (s : State) (queue : List Instr) (g : PhysicalPage) :
    (s.withPending queue).faultsOf g = s.faultsOf g := rfl
@[simp] theorem State.withPending_heldMark (s : State) (queue : List Instr) (g : PhysicalPage) :
    (s.withPending queue).heldMark g = s.heldMark g := rfl

end Sys2Proof.Machine
end

