-- ==== Sys2Proof/Laws/Tables.lean ====
section
/-! SUPPORT. What each update of a table leaves at each of its entries. -/

namespace Sys2Proof.Machine

theorem update_get {α : Type} {n : Nat} (v : Vector α n) (i j : Fin n) (x : α) :
    (update v i x)[j] = if j = i then x else v[j] := by
  simp only [update, Fin.getElem_fin, Vector.getElem_set, Fin.ext_iff, eq_comm]

theorem update_get_self {α : Type} {n : Nat} (v : Vector α n) (i : Fin n) (x : α) : (update v i x)[i] = x := by
  rw [update_get, if_pos rfl]

theorem update_get_other {α : Type} {n : Nat} (v : Vector α n) {i j : Fin n} (h : j ≠ i) (x : α) :
    (update v i x)[j] = v[j] := by
  rw [update_get, if_neg h]

theorem update_self {α : Type} {n : Nat} (v : Vector α n) (i : Fin n) : update v i v[i] = v := by simp [update]

theorem update_update {α : Type} {n : Nat} (v : Vector α n) (i : Fin n) (x y : α) :
    update (update v i x) i y = update v i y := by simp [update]

theorem ofFn_get {α : Type} {n : Nat} (f : Fin n → α) (i : Fin n) : (Vector.ofFn f)[i] = f i := by simp

theorem replicate_get {α : Type} {n : Nat} (x : α) (i : Fin n) : (Vector.replicate n x)[i] = x := by simp

/-- A byte names no entry exactly where it is too large. -/
theorem indexOf_eq_none {n : Nat} {b : Byte} : indexOf n b = none ↔ n ≤ b.toNat := by
  unfold indexOf
  split <;> simp_all

theorem indexOf_eq_some {n : Nat} {b : Byte} {i : Fin n} : indexOf n b = some i ↔ b.toNat = i.val := by
  unfold indexOf
  split
  · simp [Fin.ext_iff]
  · simp only [reduceCtorEq, false_iff]
    have := i.isLt
    omega

/-! ### The accessors of an updated state -/

theorem State.modPort_port (s : State) (p q : PortId) (f : Port → Port) :
    (s.modPort p f).port q = if q = p then f (s.port p) else s.port q := update_get ..

@[simp] theorem State.modPort_port_self (s : State) (p : PortId) (f : Port → Port) :
    (s.modPort p f).port p = f (s.port p) := by simp [State.modPort_port]

theorem State.modPort_port_other (s : State) {p q : PortId} (h : q ≠ p) (f : Port → Port) :
    (s.modPort p f).port q = s.port q := by simp [State.modPort_port, h]

theorem State.modPort_modPort (s : State) (p : PortId) (f g : Port → Port) :
    (s.modPort p f).modPort p g = s.modPort p fun pt => g (f pt) := by
  have h : ({ s with ports := update s.ports p (f (s.port p)) } : State).port p = f (s.port p) := update_get_self ..
  simp only [State.modPort, h, update_update]

theorem State.setCtx_ctx (s : State) (c d : ContextId) (k : Option Context) :
    (s.setCtx c k).ctx d = if d = c then k else s.ctx d := update_get ..

@[simp] theorem State.setCtx_ctx_self (s : State) (c : ContextId) (k : Option Context) : (s.setCtx c k).ctx c = k := by
  simp [State.setCtx_ctx]

theorem State.modCtx_ctx (s : State) (c d : ContextId) (f : Context → Context) :
    (s.modCtx c f).ctx d = if d = c then (s.ctx c).map f else s.ctx d := update_get ..

@[simp] theorem State.modCtx_ctx_self (s : State) (c : ContextId) (f : Context → Context) :
    (s.modCtx c f).ctx c = (s.ctx c).map f := by simp [State.modCtx_ctx]

theorem State.modCtx_ctx_other (s : State) {c d : ContextId} (h : d ≠ c) (f : Context → Context) :
    (s.modCtx c f).ctx d = s.ctx d := by simp [State.modCtx_ctx, h]

theorem State.modLine_line (s : State) (l m : LineId) (f : Line → Line) :
    (s.modLine l f).line m = if m = l then f (s.line l) else s.line m := update_get ..

@[simp] theorem State.modLine_line_self (s : State) (l : LineId) (f : Line → Line) :
    (s.modLine l f).line l = f (s.line l) := by simp [State.modLine_line]

theorem State.modEvents_eventsAt (s : State) (p q : PortId) (f : PortEvents → PortEvents) :
    (s.modEvents p f).eventsAt q = if q = p then f (s.eventsAt p) else s.eventsAt q := update_get ..

@[simp] theorem State.modEvents_eventsAt_self (s : State) (p : PortId) (f : PortEvents → PortEvents) :
    (s.modEvents p f).eventsAt p = f (s.eventsAt p) := by simp [State.modEvents_eventsAt]

theorem State.modFaults_faultsOf (s : State) (x g : PhysicalPage) (f : FaultSet → FaultSet) :
    (s.modFaults x f).faultsOf g = if g = x then f (s.faultsOf x) else s.faultsOf g := update_get ..

@[simp] theorem State.modFaults_faultsOf_self (s : State) (x : PhysicalPage) (f : FaultSet → FaultSet) :
    (s.modFaults x f).faultsOf x = f (s.faultsOf x) := by simp [State.modFaults_faultsOf]

@[simp] theorem State.raiseAt_eventsAt (s : State) (w : PortId → Bool) (f : FlagSet) (p : PortId) :
    (s.raiseAt w f).eventsAt p = if w p then (s.eventsAt p).raise f else s.eventsAt p := ofFn_get ..

@[simp] theorem State.postNotice_eventsAt (s : State) (c : ContextId) (o : Ending) (p : PortId) :
    (s.postNotice c o).eventsAt p = if s.noticePorts c p then (s.eventsAt p).post c o else s.eventsAt p := ofFn_get ..

@[simp] theorem State.freeSlots_ctx (s : State) (w : ContextId → Bool) (c : ContextId) :
    (s.freeSlots w).ctx c = if w c then none else s.ctx c := ofFn_get ..

@[simp] theorem State.freeSlots_eventsAt (s : State) (w : ContextId → Bool) (p : PortId) :
    (s.freeSlots w).eventsAt p =
      { s.eventsAt p with
        completions := Vector.ofFn fun c => if w c then none else (s.eventsAt p).completions[c] } := ofFn_get ..

@[simp] theorem State.freeSlots_line (s : State) (w : ContextId → Bool) (l : LineId) :
    (s.freeSlots w).line l =
      { s.line l with lastStarted := (s.line l).lastStarted.filter fun c => !w c } := ofFn_get ..

theorem State.answer_port (s : State) (p q : PortId) (code : Byte) (st : Status) (rs : List Byte) :
    (s.answer p code st rs).port q = if q = p then (s.port p).respond ⟨code, st, rs⟩ else s.port q := update_get ..

@[simp] theorem State.answer_level (s : State) (p q : PortId) (code : Byte) (st : Status) (rs : List Byte) :
    (s.answer p code st rs).level q = s.level q := by
  unfold State.level
  rw [State.answer_port]
  split <;> simp_all [Port.respond]

/-- A response leaves pending exactly what was answered. -/
@[simp] theorem State.answer_response (s : State) (p : PortId) (code : Byte) (st : Status) (rs : List Byte) :
    ((s.answer p code st rs).port p).response = some ⟨code, st, rs⟩ := by
  simp [State.answer_port, Port.respond]

/-! ### The taking of a command or an event -/

/-- A step outside a data run: while the part operates, a command is taken; otherwise nothing changes. -/
theorem takenAt_of_takes {s : State} {p : PortId} (h : s.takes p) (i : Instr) (effect : State → State) :
    takenAt p i s effect = .next (effect s) := by
  obtain ⟨hphase, hrun⟩ := h
  simp [takenAt, whenOperating, hphase, hrun]

theorem whenOperating_of_operating {s : State} (h : s.phase = .operating) (effect : State → State) :
    whenOperating s effect = .next (effect s) := by
  simp [whenOperating, h]

/-- What an event can do: its effect while the part operates, or nothing. -/
theorem whenOperating_next (s : State) (effect : State → State) :
    whenOperating s effect = .next (if s.phase = .operating then effect s else s) := by
  unfold whenOperating
  split <;> simp_all

/-- What a command can do: nothing while the part does not operate, its effect, or be kept. -/
theorem takenAt_next (p : PortId) (i : Instr) (s : State) (effect : State → State) :
    takenAt p i s effect = .next s ∨ takenAt p i s effect = .next (effect s) ∨
      takenAt p i s effect = .next (s.modPort p fun pt => pt.keep (encodeFrame i)) := by
  unfold takenAt whenOperating
  split
  · dsimp only
    split
    · exact Or.inr (Or.inl rfl)
    · exact Or.inr (Or.inr rfl)
  all_goals exact Or.inl rfl

end Sys2Proof.Machine
end

