-- ==== Sys2Proof/Laws/Memory.lean ====
section
/-! SUPPORT. The words of the store: every operation keeps the canonical form, and what a read gives after each. -/

namespace Sys2Proof.Machine

theorem Memory.wf_nil : Memory.wf [] := by simp [Memory.wf]

/-- The words of the state after reset are in canonical form. -/
theorem Memory.wf_reset : Memory.wf State.reset.words := Memory.wf_nil

theorem Memory.wf_cons {b : Nat} {v : Word} {rest : Memory} :
    Memory.wf ((b, v) :: rest) ↔
      (∀ cell ∈ rest, b < cell.1) ∧ v ≠ 0 ∧ b < Config.storeWords ∧ Memory.wf rest := by
  simp only [Memory.wf, List.map_cons, List.pairwise_cons, List.mem_map, List.mem_cons, forall_eq_or_imp]
  constructor
  · rintro ⟨⟨h1, h2⟩, ⟨h3, h4⟩, h5⟩
    exact ⟨fun cell hc => h1 _ ⟨cell, hc, rfl⟩, h3, h4, h2, h5⟩
  · rintro ⟨h1, h3, h4, h2, h5⟩
    refine ⟨⟨?_, h2⟩, ⟨h3, h4⟩, h5⟩
    rintro a ⟨cell, hc, rfl⟩
    exact h1 cell hc

/-- A cell of a written list is a cell of the list or the cell written. -/
theorem Memory.mem_write {m : Memory} {a : Nat} {w : Word} {cell : Nat × Word} (h : cell ∈ m.write a w) :
    cell ∈ m ∨ cell = (a, w) := by
  induction m with
  | nil => unfold Memory.write at h; split at h <;> simp_all
  | cons head rest ih =>
    obtain ⟨b, v⟩ := head
    unfold Memory.write at h
    split_ifs at h <;> simp only [List.mem_cons] at h ⊢ <;> tauto

theorem Memory.write_wf {m : Memory} (h : m.wf) {a : Nat} (ha : a < Config.storeWords) (w : Word) :
    (m.write a w).wf := by
  induction m with
  | nil =>
    unfold Memory.write
    split
    · exact Memory.wf_nil
    · rw [Memory.wf_cons]; exact ⟨by simp, by assumption, ha, Memory.wf_nil⟩
  | cons head rest ih =>
    obtain ⟨b, v⟩ := head
    rw [Memory.wf_cons] at h
    obtain ⟨hlow, hv, hb, hrest⟩ := h
    unfold Memory.write
    split_ifs with h1 h2 h3 h3
    · rw [Memory.wf_cons]
      refine ⟨fun cell hc => ?_, hv, hb, ih hrest⟩
      rcases Memory.mem_write hc with hc | hc
      · exact hlow cell hc
      · subst hc; exact h1
    · exact hrest
    · rw [Memory.wf_cons]; subst h2; exact ⟨hlow, h3, ha, hrest⟩
    · rw [Memory.wf_cons]; exact ⟨hlow, hv, hb, hrest⟩
    · rw [Memory.wf_cons, Memory.wf_cons]
      have hlt : a < b := by omega
      refine ⟨?_, h3, ha, hlow, hv, hb, hrest⟩
      intro cell hc
      rcases List.mem_cons.mp hc with hc | hc
      · subst hc; exact hlt
      · exact hlt.trans (hlow cell hc)

theorem Memory.zeroPage_wf {m : Memory} (h : m.wf) (g : PhysicalPage) : (m.zeroPage g).wf := by
  obtain ⟨hsorted, hcells⟩ := h
  refine ⟨?_, fun cell hc => hcells cell (List.mem_of_mem_filter hc)⟩
  exact hsorted.sublist (List.filter_sublist.map Prod.fst)

theorem Memory.writeAll_wf {m : Memory} (h : m.wf) {ws : List (Nat × Word)} (hws : ∀ x ∈ ws, x.1 < Config.storeWords) :
    (m.writeAll ws).wf := by
  induction ws generalizing m with
  | nil => exact h
  | cons head rest ih =>
    obtain ⟨a, w⟩ := head
    unfold Memory.writeAll
    exact ih (Memory.write_wf h (hws (a, w) (by simp)) w) (fun x hx => hws x (by simp [hx]))

/-! ### Reads -/

theorem Memory.read_below {m : Memory} {a : Nat} (h : ∀ cell ∈ m, a < cell.1) : m.read a = 0 := by
  induction m with
  | nil => rfl
  | cons head rest ih =>
    obtain ⟨b, v⟩ := head
    have hb : a < b := h (b, v) (by simp)
    unfold Memory.read
    rw [if_neg (by omega)]
    exact ih fun cell hc => h cell (by simp [hc])

theorem Memory.read_nil (a : Nat) : Memory.read [] a = 0 := rfl

theorem Memory.read_cons (b : Nat) (v : Word) (rest : Memory) (a : Nat) :
    Memory.read ((b, v) :: rest) a = if b = a then v else Memory.read rest a := rfl

/-- A write replaces the word at its address and no other. -/
theorem Memory.read_write {m : Memory} (h : m.wf) (a b : Nat) (w : Word) :
    (m.write a w).read b = if b = a then w else m.read b := by
  induction m with
  | nil =>
    by_cases hw : w = 0
    · simp only [Memory.write, hw, if_true, Memory.read_nil, ite_self]
    · simp only [Memory.write, hw, if_false, Memory.read_cons, Memory.read_nil, eq_comm]
  | cons head rest ih =>
    obtain ⟨c, v⟩ := head
    rw [Memory.wf_cons] at h
    obtain ⟨hlow, _, _, hrest⟩ := h
    have hzero : a ≤ c → Memory.read rest a = 0 := fun hac =>
      Memory.read_below fun cell hc => lt_of_le_of_lt hac (hlow cell hc)
    unfold Memory.write
    by_cases h1 : c < a
    · rw [if_pos h1, Memory.read_cons, ih hrest, Memory.read_cons]
      by_cases hcb : c = b
      · rw [if_pos hcb, if_pos hcb, if_neg (by omega)]
      · rw [if_neg hcb, if_neg hcb]
    · rw [if_neg h1]
      by_cases h2 : c = a
      · rw [if_pos h2, Memory.read_cons]
        by_cases h3 : w = 0
        · rw [if_pos h3]
          by_cases hba : b = a
          · rw [if_pos hba, h3, hba, hzero (by omega)]
          · rw [if_neg hba, if_neg (by omega)]
        · rw [if_neg h3, Memory.read_cons]
          by_cases hba : b = a
          · rw [if_pos hba, if_pos hba.symm]
          · rw [if_neg hba, if_neg (Ne.symm hba), if_neg (by omega)]
      · rw [if_neg h2]
        by_cases h3 : w = 0
        · rw [if_pos h3]
          by_cases hba : b = a
          · rw [if_pos hba, h3, hba, Memory.read_cons, if_neg h2, hzero (by omega)]
          · rw [if_neg hba]
        · rw [if_neg h3, Memory.read_cons]
          by_cases hba : b = a
          · rw [if_pos hba, if_pos hba.symm]
          · rw [if_neg hba, if_neg (Ne.symm hba)]

theorem Memory.read_zeroPage (m : Memory) (g : PhysicalPage) (a : Nat) :
    (m.zeroPage g).read a = if inPage g a then 0 else m.read a := by
  induction m with
  | nil => simp [Memory.zeroPage, Memory.read]
  | cons head rest ih =>
    obtain ⟨b, v⟩ := head
    simp only [Memory.zeroPage] at ih ⊢
    by_cases hb : inPage g b = true
    · rw [List.filter_cons_of_neg (by simp [hb]), ih]
      by_cases ha : inPage g a = true
      · simp [ha]
      · have hne : b ≠ a := fun h => ha (h ▸ hb)
        simp [ha, Memory.read, hne]
    · rw [List.filter_cons_of_pos (by simp [hb])]
      unfold Memory.read
      rw [ih]
      by_cases hba : b = a
      · subst hba; simp [hb]
      · simp [hba]

/-! ### Addresses -/

/-- Every physical address of a window lies in the store (R7). -/
theorem State.physical_lt (s : State) (p : PortId) (a : LogicalAddress) : s.physical p a < Config.storeWords := by
  have hpage := (s.entryFor p a).page.isLt
  have hoffset : a.toNat % Config.pageWords < 256 := Nat.mod_lt _ (by decide)
  unfold State.physical Config.storeWords
  unfold Config.pageWords at *
  omega

end Sys2Proof.Machine
end

