-- ==== Sys2Proof/Laws/Invocation.lean ====
section
/-! SUPPORT. What the shared operations of the run structure and of the service pass leave as it is. -/

namespace Sys2Proof.Machine

/-- A field that no single service of a line changes is not changed by a service pass. -/
theorem serveLines_keep {α : Type} (f : State → α) (h : ∀ s l, f (s.serveLine l) = f s) (ls : List LineId) (s : State) :
    f (ls.foldl State.serveLine s) = f s := by
  induction ls generalizing s with
  | nil => rfl
  | cons l rest ih => rw [List.foldl_cons, ih, h]

theorem servicePass_keeps {α : Type} (f : State → α) (h : ∀ s l, f (s.serveLine l) = f s) (s : State) :
    f s.servicePass = f s := serveLines_keep f h s.pendingLines s

/-- An invariant that every service of a line keeps is kept by a service pass. -/
theorem servicePass_invariant {P : State → Prop} (h : ∀ s l, P s → P (s.serveLine l)) {s : State} (hs : P s) :
    P s.servicePass := by
  have fold : ∀ (ls : List LineId) (t : State), P t → P (ls.foldl State.serveLine t) := by
    intro ls
    induction ls with
    | nil => exact fun _ ht => ht
    | cons l rest ih => exact fun t ht => ih _ (h t l ht)
  exact fold s.pendingLines s hs


/-! ### settle -/

@[simp] theorem State.settle_phase (s : State)  : (s.settle).phase = s.phase := by
  unfold State.settle; split
  · rfl
  · split <;> rfl
@[simp] theorem State.settle_words (s : State)  : (s.settle).words = s.words := by
  unfold State.settle; split
  · rfl
  · split <;> rfl
@[simp] theorem State.settle_faults (s : State)  : (s.settle).faults = s.faults := by
  unfold State.settle; split
  · rfl
  · split <;> rfl
@[simp] theorem State.settle_heldMarks (s : State)  : (s.settle).heldMarks = s.heldMarks := by
  unfold State.settle; split
  · rfl
  · split <;> rfl
@[simp] theorem State.settle_offline (s : State)  : (s.settle).offline = s.offline := by
  unfold State.settle; split
  · rfl
  · split <;> rfl
@[simp] theorem State.settle_maps (s : State)  : (s.settle).maps = s.maps := by
  unfold State.settle; split
  · rfl
  · split <;> rfl
@[simp] theorem State.settle_gates (s : State)  : (s.settle).gates = s.gates := by
  unfold State.settle; split
  · rfl
  · split <;> rfl
@[simp] theorem State.settle_heldSet (s : State)  : (s.settle).heldSet = s.heldSet := by
  unfold State.settle; split
  · rfl
  · split <;> rfl
@[simp] theorem State.settle_lines (s : State)  : (s.settle).lines = s.lines := by
  unfold State.settle; split
  · rfl
  · split <;> rfl
@[simp] theorem State.settle_pins (s : State)  : (s.settle).pins = s.pins := by
  unfold State.settle; split
  · rfl
  · split <;> rfl
@[simp] theorem State.settle_timer (s : State)  : (s.settle).timer = s.timer := by
  unfold State.settle; split
  · rfl
  · split <;> rfl
@[simp] theorem State.settle_check (s : State)  : (s.settle).check = s.check := by
  unfold State.settle; split
  · rfl
  · split <;> rfl
@[simp] theorem State.settle_ports (s : State)  : (s.settle).ports = s.ports := by
  unfold State.settle; split
  · rfl
  · split <;> rfl
@[simp] theorem State.settle_events (s : State)  : (s.settle).events = s.events := by
  unfold State.settle; split
  · rfl
  · split <;> rfl
@[simp] theorem State.settle_pending (s : State)  : (s.settle).pending = s.pending := by
  unfold State.settle; split
  · rfl
  · split <;> rfl
@[simp] theorem State.settle_port (s : State)  (q : PortId) :
    (s.settle).port q = s.port q := by
  simp [State.port]
@[simp] theorem State.settle_level (s : State)  (q : PortId) :
    (s.settle).level q = s.level q := by
  simp [State.level]
@[simp] theorem State.settle_gate (s : State)  (g : GateId) :
    (s.settle).gate g = s.gate g := by
  simp [State.gate]
@[simp] theorem State.settle_entry (s : State)  (q : PortId) (n : LogicalPage) :
    (s.settle).entry q n = s.entry q n := by
  simp [State.entry]
@[simp] theorem State.settle_faultsOf (s : State)  (g : PhysicalPage) :
    (s.settle).faultsOf g = s.faultsOf g := by
  simp [State.faultsOf]
@[simp] theorem State.settle_heldMark (s : State)  (g : PhysicalPage) :
    (s.settle).heldMark g = s.heldMark g := by
  simp [State.heldMark]
@[simp] theorem State.settle_line (s : State)  (m : LineId) :
    (s.settle).line m = s.line m := by
  simp [State.line]
@[simp] theorem State.settle_eventsAt (s : State)  (q : PortId) :
    (s.settle).eventsAt q = s.eventsAt q := by
  simp [State.eventsAt]

/-! ### withdraw -/

@[simp] theorem State.withdraw_phase (s : State) (w : ContextId → Bool) : (s.withdraw w).phase = s.phase := by
  unfold State.withdraw; rw [State.settle_phase]
@[simp] theorem State.withdraw_words (s : State) (w : ContextId → Bool) : (s.withdraw w).words = s.words := by
  unfold State.withdraw; rw [State.settle_words]
@[simp] theorem State.withdraw_faults (s : State) (w : ContextId → Bool) : (s.withdraw w).faults = s.faults := by
  unfold State.withdraw; rw [State.settle_faults]
@[simp] theorem State.withdraw_heldMarks (s : State) (w : ContextId → Bool) : (s.withdraw w).heldMarks = s.heldMarks := by
  unfold State.withdraw; rw [State.settle_heldMarks]
@[simp] theorem State.withdraw_offline (s : State) (w : ContextId → Bool) : (s.withdraw w).offline = s.offline := by
  unfold State.withdraw; rw [State.settle_offline]
@[simp] theorem State.withdraw_maps (s : State) (w : ContextId → Bool) : (s.withdraw w).maps = s.maps := by
  unfold State.withdraw; rw [State.settle_maps]
@[simp] theorem State.withdraw_gates (s : State) (w : ContextId → Bool) : (s.withdraw w).gates = s.gates := by
  unfold State.withdraw; rw [State.settle_gates]
@[simp] theorem State.withdraw_lines (s : State) (w : ContextId → Bool) : (s.withdraw w).lines = s.lines := by
  unfold State.withdraw; rw [State.settle_lines]
@[simp] theorem State.withdraw_pins (s : State) (w : ContextId → Bool) : (s.withdraw w).pins = s.pins := by
  unfold State.withdraw; rw [State.settle_pins]
@[simp] theorem State.withdraw_timer (s : State) (w : ContextId → Bool) : (s.withdraw w).timer = s.timer := by
  unfold State.withdraw; rw [State.settle_timer]
@[simp] theorem State.withdraw_check (s : State) (w : ContextId → Bool) : (s.withdraw w).check = s.check := by
  unfold State.withdraw; rw [State.settle_check]
@[simp] theorem State.withdraw_ports (s : State) (w : ContextId → Bool) : (s.withdraw w).ports = s.ports := by
  unfold State.withdraw; rw [State.settle_ports]
@[simp] theorem State.withdraw_events (s : State) (w : ContextId → Bool) : (s.withdraw w).events = s.events := by
  unfold State.withdraw; rw [State.settle_events]
@[simp] theorem State.withdraw_pending (s : State) (w : ContextId → Bool) : (s.withdraw w).pending = s.pending := by
  unfold State.withdraw; rw [State.settle_pending]
@[simp] theorem State.withdraw_port (s : State) (w : ContextId → Bool) (q : PortId) :
    (s.withdraw w).port q = s.port q := by
  simp [State.port]
@[simp] theorem State.withdraw_level (s : State) (w : ContextId → Bool) (q : PortId) :
    (s.withdraw w).level q = s.level q := by
  simp [State.level]
@[simp] theorem State.withdraw_gate (s : State) (w : ContextId → Bool) (g : GateId) :
    (s.withdraw w).gate g = s.gate g := by
  simp [State.gate]
@[simp] theorem State.withdraw_entry (s : State) (w : ContextId → Bool) (q : PortId) (n : LogicalPage) :
    (s.withdraw w).entry q n = s.entry q n := by
  simp [State.entry]
@[simp] theorem State.withdraw_faultsOf (s : State) (w : ContextId → Bool) (g : PhysicalPage) :
    (s.withdraw w).faultsOf g = s.faultsOf g := by
  simp [State.faultsOf]
@[simp] theorem State.withdraw_heldMark (s : State) (w : ContextId → Bool) (g : PhysicalPage) :
    (s.withdraw w).heldMark g = s.heldMark g := by
  simp [State.heldMark]
@[simp] theorem State.withdraw_line (s : State) (w : ContextId → Bool) (m : LineId) :
    (s.withdraw w).line m = s.line m := by
  simp [State.line]
@[simp] theorem State.withdraw_eventsAt (s : State) (w : ContextId → Bool) (q : PortId) :
    (s.withdraw w).eventsAt q = s.eventsAt q := by
  simp [State.eventsAt]

/-! ### accept -/

@[simp] theorem State.accept_phase (s : State) (c : ContextId) (kind : GateKind) (who : Starter) : (s.accept c kind who).phase = s.phase := by
  unfold State.accept; split
  · rfl
  · split <;> rfl
@[simp] theorem State.accept_words (s : State) (c : ContextId) (kind : GateKind) (who : Starter) : (s.accept c kind who).words = s.words := by
  unfold State.accept; split
  · rfl
  · split <;> rfl
@[simp] theorem State.accept_faults (s : State) (c : ContextId) (kind : GateKind) (who : Starter) : (s.accept c kind who).faults = s.faults := by
  unfold State.accept; split
  · rfl
  · split <;> rfl
@[simp] theorem State.accept_heldMarks (s : State) (c : ContextId) (kind : GateKind) (who : Starter) : (s.accept c kind who).heldMarks = s.heldMarks := by
  unfold State.accept; split
  · rfl
  · split <;> rfl
@[simp] theorem State.accept_offline (s : State) (c : ContextId) (kind : GateKind) (who : Starter) : (s.accept c kind who).offline = s.offline := by
  unfold State.accept; split
  · rfl
  · split <;> rfl
@[simp] theorem State.accept_maps (s : State) (c : ContextId) (kind : GateKind) (who : Starter) : (s.accept c kind who).maps = s.maps := by
  unfold State.accept; split
  · rfl
  · split <;> rfl
@[simp] theorem State.accept_gates (s : State) (c : ContextId) (kind : GateKind) (who : Starter) : (s.accept c kind who).gates = s.gates := by
  unfold State.accept; split
  · rfl
  · split <;> rfl
@[simp] theorem State.accept_heldSet (s : State) (c : ContextId) (kind : GateKind) (who : Starter) : (s.accept c kind who).heldSet = s.heldSet := by
  unfold State.accept; split
  · rfl
  · split <;> rfl
@[simp] theorem State.accept_lines (s : State) (c : ContextId) (kind : GateKind) (who : Starter) : (s.accept c kind who).lines = s.lines := by
  unfold State.accept; split
  · rfl
  · split <;> rfl
@[simp] theorem State.accept_pins (s : State) (c : ContextId) (kind : GateKind) (who : Starter) : (s.accept c kind who).pins = s.pins := by
  unfold State.accept; split
  · rfl
  · split <;> rfl
@[simp] theorem State.accept_timer (s : State) (c : ContextId) (kind : GateKind) (who : Starter) : (s.accept c kind who).timer = s.timer := by
  unfold State.accept; split
  · rfl
  · split <;> rfl
@[simp] theorem State.accept_check (s : State) (c : ContextId) (kind : GateKind) (who : Starter) : (s.accept c kind who).check = s.check := by
  unfold State.accept; split
  · rfl
  · split <;> rfl
@[simp] theorem State.accept_ports (s : State) (c : ContextId) (kind : GateKind) (who : Starter) : (s.accept c kind who).ports = s.ports := by
  unfold State.accept; split
  · rfl
  · split <;> rfl
@[simp] theorem State.accept_events (s : State) (c : ContextId) (kind : GateKind) (who : Starter) : (s.accept c kind who).events = s.events := by
  unfold State.accept; split
  · rfl
  · split <;> rfl
@[simp] theorem State.accept_pending (s : State) (c : ContextId) (kind : GateKind) (who : Starter) : (s.accept c kind who).pending = s.pending := by
  unfold State.accept; split
  · rfl
  · split <;> rfl
@[simp] theorem State.accept_port (s : State) (c : ContextId) (kind : GateKind) (who : Starter) (q : PortId) :
    (s.accept c kind who).port q = s.port q := by
  simp [State.port]
@[simp] theorem State.accept_level (s : State) (c : ContextId) (kind : GateKind) (who : Starter) (q : PortId) :
    (s.accept c kind who).level q = s.level q := by
  simp [State.level]
@[simp] theorem State.accept_gate (s : State) (c : ContextId) (kind : GateKind) (who : Starter) (g : GateId) :
    (s.accept c kind who).gate g = s.gate g := by
  simp [State.gate]
@[simp] theorem State.accept_entry (s : State) (c : ContextId) (kind : GateKind) (who : Starter) (q : PortId) (n : LogicalPage) :
    (s.accept c kind who).entry q n = s.entry q n := by
  simp [State.entry]
@[simp] theorem State.accept_faultsOf (s : State) (c : ContextId) (kind : GateKind) (who : Starter) (g : PhysicalPage) :
    (s.accept c kind who).faultsOf g = s.faultsOf g := by
  simp [State.faultsOf]
@[simp] theorem State.accept_heldMark (s : State) (c : ContextId) (kind : GateKind) (who : Starter) (g : PhysicalPage) :
    (s.accept c kind who).heldMark g = s.heldMark g := by
  simp [State.heldMark]
@[simp] theorem State.accept_line (s : State) (c : ContextId) (kind : GateKind) (who : Starter) (m : LineId) :
    (s.accept c kind who).line m = s.line m := by
  simp [State.line]
@[simp] theorem State.accept_eventsAt (s : State) (c : ContextId) (kind : GateKind) (who : Starter) (q : PortId) :
    (s.accept c kind who).eventsAt q = s.eventsAt q := by
  simp [State.eventsAt]

/-! ### serveLine -/

@[simp] theorem State.serveLine_phase (s : State) (l : LineId) : (s.serveLine l).phase = s.phase := by
  unfold State.serveLine; split
  · simp
  · split <;> rfl
@[simp] theorem State.serveLine_words (s : State) (l : LineId) : (s.serveLine l).words = s.words := by
  unfold State.serveLine; split
  · simp
  · split <;> rfl
@[simp] theorem State.serveLine_faults (s : State) (l : LineId) : (s.serveLine l).faults = s.faults := by
  unfold State.serveLine; split
  · simp
  · split <;> rfl
@[simp] theorem State.serveLine_heldMarks (s : State) (l : LineId) : (s.serveLine l).heldMarks = s.heldMarks := by
  unfold State.serveLine; split
  · simp
  · split <;> rfl
@[simp] theorem State.serveLine_offline (s : State) (l : LineId) : (s.serveLine l).offline = s.offline := by
  unfold State.serveLine; split
  · simp
  · split <;> rfl
@[simp] theorem State.serveLine_maps (s : State) (l : LineId) : (s.serveLine l).maps = s.maps := by
  unfold State.serveLine; split
  · simp
  · split <;> rfl
@[simp] theorem State.serveLine_gates (s : State) (l : LineId) : (s.serveLine l).gates = s.gates := by
  unfold State.serveLine; split
  · simp
  · split <;> rfl
@[simp] theorem State.serveLine_heldSet (s : State) (l : LineId) : (s.serveLine l).heldSet = s.heldSet := by
  unfold State.serveLine; split
  · simp
  · split <;> rfl
@[simp] theorem State.serveLine_pins (s : State) (l : LineId) : (s.serveLine l).pins = s.pins := by
  unfold State.serveLine; split
  · simp
  · split <;> rfl
@[simp] theorem State.serveLine_timer (s : State) (l : LineId) : (s.serveLine l).timer = s.timer := by
  unfold State.serveLine; split
  · simp
  · split <;> rfl
@[simp] theorem State.serveLine_check (s : State) (l : LineId) : (s.serveLine l).check = s.check := by
  unfold State.serveLine; split
  · simp
  · split <;> rfl
@[simp] theorem State.serveLine_ports (s : State) (l : LineId) : (s.serveLine l).ports = s.ports := by
  unfold State.serveLine; split
  · simp
  · split <;> rfl
@[simp] theorem State.serveLine_pending (s : State) (l : LineId) : (s.serveLine l).pending = s.pending := by
  unfold State.serveLine; split
  · simp
  · split <;> rfl
@[simp] theorem State.serveLine_port (s : State) (l : LineId) (q : PortId) :
    (s.serveLine l).port q = s.port q := by
  simp [State.port]
@[simp] theorem State.serveLine_level (s : State) (l : LineId) (q : PortId) :
    (s.serveLine l).level q = s.level q := by
  simp [State.level]
@[simp] theorem State.serveLine_gate (s : State) (l : LineId) (g : GateId) :
    (s.serveLine l).gate g = s.gate g := by
  simp [State.gate]
@[simp] theorem State.serveLine_entry (s : State) (l : LineId) (q : PortId) (n : LogicalPage) :
    (s.serveLine l).entry q n = s.entry q n := by
  simp [State.entry]
@[simp] theorem State.serveLine_faultsOf (s : State) (l : LineId) (g : PhysicalPage) :
    (s.serveLine l).faultsOf g = s.faultsOf g := by
  simp [State.faultsOf]
@[simp] theorem State.serveLine_heldMark (s : State) (l : LineId) (g : PhysicalPage) :
    (s.serveLine l).heldMark g = s.heldMark g := by
  simp [State.heldMark]

/-! ### servicePass -/

@[simp] theorem State.servicePass_phase (s : State)  : (s.servicePass).phase = s.phase := by
  exact servicePass_keeps (·.phase) (fun s l => State.serveLine_phase s l) s
@[simp] theorem State.servicePass_words (s : State)  : (s.servicePass).words = s.words := by
  exact servicePass_keeps (·.words) (fun s l => State.serveLine_words s l) s
@[simp] theorem State.servicePass_faults (s : State)  : (s.servicePass).faults = s.faults := by
  exact servicePass_keeps (·.faults) (fun s l => State.serveLine_faults s l) s
@[simp] theorem State.servicePass_heldMarks (s : State)  : (s.servicePass).heldMarks = s.heldMarks := by
  exact servicePass_keeps (·.heldMarks) (fun s l => State.serveLine_heldMarks s l) s
@[simp] theorem State.servicePass_offline (s : State)  : (s.servicePass).offline = s.offline := by
  exact servicePass_keeps (·.offline) (fun s l => State.serveLine_offline s l) s
@[simp] theorem State.servicePass_maps (s : State)  : (s.servicePass).maps = s.maps := by
  exact servicePass_keeps (·.maps) (fun s l => State.serveLine_maps s l) s
@[simp] theorem State.servicePass_gates (s : State)  : (s.servicePass).gates = s.gates := by
  exact servicePass_keeps (·.gates) (fun s l => State.serveLine_gates s l) s
@[simp] theorem State.servicePass_heldSet (s : State)  : (s.servicePass).heldSet = s.heldSet := by
  exact servicePass_keeps (·.heldSet) (fun s l => State.serveLine_heldSet s l) s
@[simp] theorem State.servicePass_pins (s : State)  : (s.servicePass).pins = s.pins := by
  exact servicePass_keeps (·.pins) (fun s l => State.serveLine_pins s l) s
@[simp] theorem State.servicePass_timer (s : State)  : (s.servicePass).timer = s.timer := by
  exact servicePass_keeps (·.timer) (fun s l => State.serveLine_timer s l) s
@[simp] theorem State.servicePass_check (s : State)  : (s.servicePass).check = s.check := by
  exact servicePass_keeps (·.check) (fun s l => State.serveLine_check s l) s
@[simp] theorem State.servicePass_ports (s : State)  : (s.servicePass).ports = s.ports := by
  exact servicePass_keeps (·.ports) (fun s l => State.serveLine_ports s l) s
@[simp] theorem State.servicePass_pending (s : State)  : (s.servicePass).pending = s.pending := by
  exact servicePass_keeps (·.pending) (fun s l => State.serveLine_pending s l) s
@[simp] theorem State.servicePass_port (s : State)  (q : PortId) :
    (s.servicePass).port q = s.port q := by
  simp [State.port]
@[simp] theorem State.servicePass_level (s : State)  (q : PortId) :
    (s.servicePass).level q = s.level q := by
  simp [State.level]
@[simp] theorem State.servicePass_gate (s : State)  (g : GateId) :
    (s.servicePass).gate g = s.gate g := by
  simp [State.gate]
@[simp] theorem State.servicePass_entry (s : State)  (q : PortId) (n : LogicalPage) :
    (s.servicePass).entry q n = s.entry q n := by
  simp [State.entry]
@[simp] theorem State.servicePass_faultsOf (s : State)  (g : PhysicalPage) :
    (s.servicePass).faultsOf g = s.faultsOf g := by
  simp [State.faultsOf]
@[simp] theorem State.servicePass_heldMark (s : State)  (g : PhysicalPage) :
    (s.servicePass).heldMark g = s.heldMark g := by
  simp [State.heldMark]

/-! ### serviceIf -/

@[simp] theorem State.serviceIf_phase (s : State) (b : Bool) : (s.serviceIf b).phase = s.phase := by
  unfold State.serviceIf; split
  · exact State.servicePass_phase s
  · rfl
@[simp] theorem State.serviceIf_words (s : State) (b : Bool) : (s.serviceIf b).words = s.words := by
  unfold State.serviceIf; split
  · exact State.servicePass_words s
  · rfl
@[simp] theorem State.serviceIf_faults (s : State) (b : Bool) : (s.serviceIf b).faults = s.faults := by
  unfold State.serviceIf; split
  · exact State.servicePass_faults s
  · rfl
@[simp] theorem State.serviceIf_heldMarks (s : State) (b : Bool) : (s.serviceIf b).heldMarks = s.heldMarks := by
  unfold State.serviceIf; split
  · exact State.servicePass_heldMarks s
  · rfl
@[simp] theorem State.serviceIf_offline (s : State) (b : Bool) : (s.serviceIf b).offline = s.offline := by
  unfold State.serviceIf; split
  · exact State.servicePass_offline s
  · rfl
@[simp] theorem State.serviceIf_maps (s : State) (b : Bool) : (s.serviceIf b).maps = s.maps := by
  unfold State.serviceIf; split
  · exact State.servicePass_maps s
  · rfl
@[simp] theorem State.serviceIf_gates (s : State) (b : Bool) : (s.serviceIf b).gates = s.gates := by
  unfold State.serviceIf; split
  · exact State.servicePass_gates s
  · rfl
@[simp] theorem State.serviceIf_heldSet (s : State) (b : Bool) : (s.serviceIf b).heldSet = s.heldSet := by
  unfold State.serviceIf; split
  · exact State.servicePass_heldSet s
  · rfl
@[simp] theorem State.serviceIf_pins (s : State) (b : Bool) : (s.serviceIf b).pins = s.pins := by
  unfold State.serviceIf; split
  · exact State.servicePass_pins s
  · rfl
@[simp] theorem State.serviceIf_timer (s : State) (b : Bool) : (s.serviceIf b).timer = s.timer := by
  unfold State.serviceIf; split
  · exact State.servicePass_timer s
  · rfl
@[simp] theorem State.serviceIf_check (s : State) (b : Bool) : (s.serviceIf b).check = s.check := by
  unfold State.serviceIf; split
  · exact State.servicePass_check s
  · rfl
@[simp] theorem State.serviceIf_ports (s : State) (b : Bool) : (s.serviceIf b).ports = s.ports := by
  unfold State.serviceIf; split
  · exact State.servicePass_ports s
  · rfl
@[simp] theorem State.serviceIf_pending (s : State) (b : Bool) : (s.serviceIf b).pending = s.pending := by
  unfold State.serviceIf; split
  · exact State.servicePass_pending s
  · rfl
@[simp] theorem State.serviceIf_port (s : State) (b : Bool) (q : PortId) :
    (s.serviceIf b).port q = s.port q := by
  simp [State.port]
@[simp] theorem State.serviceIf_level (s : State) (b : Bool) (q : PortId) :
    (s.serviceIf b).level q = s.level q := by
  simp [State.level]
@[simp] theorem State.serviceIf_gate (s : State) (b : Bool) (g : GateId) :
    (s.serviceIf b).gate g = s.gate g := by
  simp [State.gate]
@[simp] theorem State.serviceIf_entry (s : State) (b : Bool) (q : PortId) (n : LogicalPage) :
    (s.serviceIf b).entry q n = s.entry q n := by
  simp [State.entry]
@[simp] theorem State.serviceIf_faultsOf (s : State) (b : Bool) (g : PhysicalPage) :
    (s.serviceIf b).faultsOf g = s.faultsOf g := by
  simp [State.faultsOf]
@[simp] theorem State.serviceIf_heldMark (s : State) (b : Bool) (g : PhysicalPage) :
    (s.serviceIf b).heldMark g = s.heldMark g := by
  simp [State.heldMark]

/-! ### completeContext -/

@[simp] theorem State.completeContext_phase (s : State) (c : ContextId) : (s.completeContext c).phase = s.phase := by
  simp [State.completeContext]
@[simp] theorem State.completeContext_words (s : State) (c : ContextId) : (s.completeContext c).words = s.words := by
  simp [State.completeContext]
@[simp] theorem State.completeContext_faults (s : State) (c : ContextId) : (s.completeContext c).faults = s.faults := by
  simp [State.completeContext]
@[simp] theorem State.completeContext_heldMarks (s : State) (c : ContextId) : (s.completeContext c).heldMarks = s.heldMarks := by
  simp [State.completeContext]
@[simp] theorem State.completeContext_offline (s : State) (c : ContextId) : (s.completeContext c).offline = s.offline := by
  simp [State.completeContext]
@[simp] theorem State.completeContext_maps (s : State) (c : ContextId) : (s.completeContext c).maps = s.maps := by
  simp [State.completeContext]
@[simp] theorem State.completeContext_gates (s : State) (c : ContextId) : (s.completeContext c).gates = s.gates := by
  simp [State.completeContext]
@[simp] theorem State.completeContext_pins (s : State) (c : ContextId) : (s.completeContext c).pins = s.pins := by
  simp [State.completeContext]
@[simp] theorem State.completeContext_timer (s : State) (c : ContextId) : (s.completeContext c).timer = s.timer := by
  simp [State.completeContext]
@[simp] theorem State.completeContext_check (s : State) (c : ContextId) : (s.completeContext c).check = s.check := by
  simp [State.completeContext]
@[simp] theorem State.completeContext_ports (s : State) (c : ContextId) : (s.completeContext c).ports = s.ports := by
  simp [State.completeContext]
@[simp] theorem State.completeContext_pending (s : State) (c : ContextId) : (s.completeContext c).pending = s.pending := by
  simp [State.completeContext]
@[simp] theorem State.completeContext_port (s : State) (c : ContextId) (q : PortId) :
    (s.completeContext c).port q = s.port q := by
  simp [State.port]
@[simp] theorem State.completeContext_level (s : State) (c : ContextId) (q : PortId) :
    (s.completeContext c).level q = s.level q := by
  simp [State.level]
@[simp] theorem State.completeContext_gate (s : State) (c : ContextId) (g : GateId) :
    (s.completeContext c).gate g = s.gate g := by
  simp [State.gate]
@[simp] theorem State.completeContext_entry (s : State) (c : ContextId) (q : PortId) (n : LogicalPage) :
    (s.completeContext c).entry q n = s.entry q n := by
  simp [State.entry]
@[simp] theorem State.completeContext_faultsOf (s : State) (c : ContextId) (g : PhysicalPage) :
    (s.completeContext c).faultsOf g = s.faultsOf g := by
  simp [State.faultsOf]
@[simp] theorem State.completeContext_heldMark (s : State) (c : ContextId) (g : PhysicalPage) :
    (s.completeContext c).heldMark g = s.heldMark g := by
  simp [State.heldMark]

/-! ### faultContext -/

@[simp] theorem State.faultContext_phase (s : State) (c : ContextId) (cause : FaultCause) : (s.faultContext c cause).phase = s.phase := by
  simp [State.faultContext]
@[simp] theorem State.faultContext_words (s : State) (c : ContextId) (cause : FaultCause) : (s.faultContext c cause).words = s.words := by
  simp [State.faultContext]
@[simp] theorem State.faultContext_faults (s : State) (c : ContextId) (cause : FaultCause) : (s.faultContext c cause).faults = s.faults := by
  simp [State.faultContext]
@[simp] theorem State.faultContext_heldMarks (s : State) (c : ContextId) (cause : FaultCause) : (s.faultContext c cause).heldMarks = s.heldMarks := by
  simp [State.faultContext]
@[simp] theorem State.faultContext_offline (s : State) (c : ContextId) (cause : FaultCause) : (s.faultContext c cause).offline = s.offline := by
  simp [State.faultContext]
@[simp] theorem State.faultContext_maps (s : State) (c : ContextId) (cause : FaultCause) : (s.faultContext c cause).maps = s.maps := by
  simp [State.faultContext]
@[simp] theorem State.faultContext_gates (s : State) (c : ContextId) (cause : FaultCause) : (s.faultContext c cause).gates = s.gates := by
  simp [State.faultContext]
@[simp] theorem State.faultContext_pins (s : State) (c : ContextId) (cause : FaultCause) : (s.faultContext c cause).pins = s.pins := by
  simp [State.faultContext]
@[simp] theorem State.faultContext_timer (s : State) (c : ContextId) (cause : FaultCause) : (s.faultContext c cause).timer = s.timer := by
  simp [State.faultContext]
@[simp] theorem State.faultContext_check (s : State) (c : ContextId) (cause : FaultCause) : (s.faultContext c cause).check = s.check := by
  simp [State.faultContext]
@[simp] theorem State.faultContext_ports (s : State) (c : ContextId) (cause : FaultCause) : (s.faultContext c cause).ports = s.ports := by
  simp [State.faultContext]
@[simp] theorem State.faultContext_pending (s : State) (c : ContextId) (cause : FaultCause) : (s.faultContext c cause).pending = s.pending := by
  simp [State.faultContext]
@[simp] theorem State.faultContext_port (s : State) (c : ContextId) (cause : FaultCause) (q : PortId) :
    (s.faultContext c cause).port q = s.port q := by
  simp [State.port]
@[simp] theorem State.faultContext_level (s : State) (c : ContextId) (cause : FaultCause) (q : PortId) :
    (s.faultContext c cause).level q = s.level q := by
  simp [State.level]
@[simp] theorem State.faultContext_gate (s : State) (c : ContextId) (cause : FaultCause) (g : GateId) :
    (s.faultContext c cause).gate g = s.gate g := by
  simp [State.gate]
@[simp] theorem State.faultContext_entry (s : State) (c : ContextId) (cause : FaultCause) (q : PortId) (n : LogicalPage) :
    (s.faultContext c cause).entry q n = s.entry q n := by
  simp [State.entry]
@[simp] theorem State.faultContext_faultsOf (s : State) (c : ContextId) (cause : FaultCause) (g : PhysicalPage) :
    (s.faultContext c cause).faultsOf g = s.faultsOf g := by
  simp [State.faultsOf]
@[simp] theorem State.faultContext_heldMark (s : State) (c : ContextId) (cause : FaultCause) (g : PhysicalPage) :
    (s.faultContext c cause).heldMark g = s.heldMark g := by
  simp [State.heldMark]

/-! ### wordCheckFailure -/

@[simp] theorem State.wordCheckFailure_phase (s : State) (x : PhysicalPage) : (s.wordCheckFailure x).phase = s.phase := by
  unfold State.wordCheckFailure; split <;> rfl
@[simp] theorem State.wordCheckFailure_words (s : State) (x : PhysicalPage) : (s.wordCheckFailure x).words = s.words := by
  unfold State.wordCheckFailure; split <;> rfl
@[simp] theorem State.wordCheckFailure_heldMarks (s : State) (x : PhysicalPage) : (s.wordCheckFailure x).heldMarks = s.heldMarks := by
  unfold State.wordCheckFailure; split <;> rfl
@[simp] theorem State.wordCheckFailure_offline (s : State) (x : PhysicalPage) : (s.wordCheckFailure x).offline = s.offline := by
  unfold State.wordCheckFailure; split <;> rfl
@[simp] theorem State.wordCheckFailure_maps (s : State) (x : PhysicalPage) : (s.wordCheckFailure x).maps = s.maps := by
  unfold State.wordCheckFailure; split <;> rfl
@[simp] theorem State.wordCheckFailure_contexts (s : State) (x : PhysicalPage) : (s.wordCheckFailure x).contexts = s.contexts := by
  unfold State.wordCheckFailure; split <;> rfl
@[simp] theorem State.wordCheckFailure_gates (s : State) (x : PhysicalPage) : (s.wordCheckFailure x).gates = s.gates := by
  unfold State.wordCheckFailure; split <;> rfl
@[simp] theorem State.wordCheckFailure_chain (s : State) (x : PhysicalPage) : (s.wordCheckFailure x).chain = s.chain := by
  unfold State.wordCheckFailure; split <;> rfl
@[simp] theorem State.wordCheckFailure_ready (s : State) (x : PhysicalPage) : (s.wordCheckFailure x).ready = s.ready := by
  unfold State.wordCheckFailure; split <;> rfl
@[simp] theorem State.wordCheckFailure_heldSet (s : State) (x : PhysicalPage) : (s.wordCheckFailure x).heldSet = s.heldSet := by
  unfold State.wordCheckFailure; split <;> rfl
@[simp] theorem State.wordCheckFailure_lines (s : State) (x : PhysicalPage) : (s.wordCheckFailure x).lines = s.lines := by
  unfold State.wordCheckFailure; split <;> rfl
@[simp] theorem State.wordCheckFailure_pins (s : State) (x : PhysicalPage) : (s.wordCheckFailure x).pins = s.pins := by
  unfold State.wordCheckFailure; split <;> rfl
@[simp] theorem State.wordCheckFailure_timer (s : State) (x : PhysicalPage) : (s.wordCheckFailure x).timer = s.timer := by
  unfold State.wordCheckFailure; split <;> rfl
@[simp] theorem State.wordCheckFailure_check (s : State) (x : PhysicalPage) : (s.wordCheckFailure x).check = s.check := by
  unfold State.wordCheckFailure; split <;> rfl
@[simp] theorem State.wordCheckFailure_ports (s : State) (x : PhysicalPage) : (s.wordCheckFailure x).ports = s.ports := by
  unfold State.wordCheckFailure; split <;> rfl
@[simp] theorem State.wordCheckFailure_pending (s : State) (x : PhysicalPage) : (s.wordCheckFailure x).pending = s.pending := by
  unfold State.wordCheckFailure; split <;> rfl
@[simp] theorem State.wordCheckFailure_port (s : State) (x : PhysicalPage) (q : PortId) :
    (s.wordCheckFailure x).port q = s.port q := by
  simp [State.port]
@[simp] theorem State.wordCheckFailure_level (s : State) (x : PhysicalPage) (q : PortId) :
    (s.wordCheckFailure x).level q = s.level q := by
  simp [State.level]
@[simp] theorem State.wordCheckFailure_gate (s : State) (x : PhysicalPage) (g : GateId) :
    (s.wordCheckFailure x).gate g = s.gate g := by
  simp [State.gate]
@[simp] theorem State.wordCheckFailure_entry (s : State) (x : PhysicalPage) (q : PortId) (n : LogicalPage) :
    (s.wordCheckFailure x).entry q n = s.entry q n := by
  simp [State.entry]
@[simp] theorem State.wordCheckFailure_heldMark (s : State) (x : PhysicalPage) (g : PhysicalPage) :
    (s.wordCheckFailure x).heldMark g = s.heldMark g := by
  simp [State.heldMark]
@[simp] theorem State.wordCheckFailure_line (s : State) (x : PhysicalPage) (m : LineId) :
    (s.wordCheckFailure x).line m = s.line m := by
  simp [State.line]

/-! ### Records of contexts -/

/-- Successor selection changes a record by its state alone, and only to RUNNING. -/
theorem State.settle_ctx (s : State) (c : ContextId) :
    s.settle.ctx c = s.ctx c ∨ s.settle.ctx c = (s.ctx c).map fun k => k.withState .running := by
  unfold State.settle
  split
  · rename_i h _ _
    by_cases hc : c = h
    · subst hc; exact Or.inr (State.modCtx_ctx_self ..)
    · exact Or.inl (State.modCtx_ctx_other _ hc _)
  · split
    · exact Or.inl rfl
    · rename_i d _ _
      by_cases hc : c = d
      · subst hc; exact Or.inr (State.modCtx_ctx_self ..)
      · exact Or.inl (State.modCtx_ctx_other _ hc _)

theorem State.withdraw_ctx (s : State) (w : ContextId → Bool) (c : ContextId) :
    (s.withdraw w).ctx c = s.ctx c ∨ (s.withdraw w).ctx c = (s.ctx c).map fun k => k.withState .running :=
  State.settle_ctx _ c

/-- Slots stay FREE, and stay defined, through successor selection. -/
theorem State.settle_ctx_isSome (s : State) (c : ContextId) : (s.settle.ctx c).isSome = (s.ctx c).isSome := by
  rcases State.settle_ctx s c with h | h <;> simp [h]

theorem State.withdraw_ctx_isSome (s : State) (w : ContextId → Bool) (c : ContextId) :
    ((s.withdraw w).ctx c).isSome = (s.ctx c).isSome := State.settle_ctx_isSome _ c

theorem State.modCtx_ctx_isSome (s : State) (c d : ContextId) (f : Context → Context) :
    ((s.modCtx c f).ctx d).isSome = (s.ctx d).isSome := by
  rw [State.modCtx_ctx]; split <;> simp_all

theorem State.accept_ctx_isSome (s : State) (c d : ContextId) (kind : GateKind) (who : Starter) :
    ((s.accept c kind who).ctx d).isSome = (s.ctx d).isSome := by
  unfold State.accept
  split
  · exact State.modCtx_ctx_isSome ..
  · split
    · exact State.modCtx_ctx_isSome ..
    · exact (State.modCtx_ctx_isSome ..).trans (State.modCtx_ctx_isSome ..)

/-- The chain and the lists after a withdrawal: what is left, and its head runs, or the head of the ready list. -/
theorem State.withdraw_chain (s : State) (w : ContextId → Bool) :
    (s.withdraw w).chain =
      match s.chain.filter (fun c => !w c), s.ready.filter (fun c => !w c) with
      | [], [] => []
      | [], d :: _ => [d]
      | c :: rest, _ => c :: rest := by
  unfold State.withdraw State.settle
  dsimp only
  split <;> rename_i h
  · simp [h]
  · rw [h]; split <;> rename_i h' <;> simp [h']

theorem State.withdraw_ready (s : State) (w : ContextId → Bool) :
    (s.withdraw w).ready =
      match s.chain.filter (fun c => !w c) with
      | [] => (s.ready.filter fun c => !w c).tail
      | _ :: _ => s.ready.filter fun c => !w c := by
  unfold State.withdraw State.settle
  dsimp only
  split <;> rename_i h
  · simp [h]
  · rw [h]; split <;> rename_i h' <;> simp [h']

theorem State.withdraw_heldSet (s : State) (w : ContextId → Bool) :
    (s.withdraw w).heldSet = s.heldSet.filter fun c => !w c := by
  unfold State.withdraw State.settle
  dsimp only
  split
  · rfl
  · split <;> rfl

/-! ### What a check sequence that passes says (R53) -/

/-- A passed check sequence: a present gate that admits the invoker, an inactive context that is not FAULTED, room in the
chain for a NEST gate, a working store, and a mapped span without faults and marks. -/
theorem State.checkInvocation_ok {s : State} {gate : Option Gate} {who : Starter} {g : Gate}
    (h : s.checkInvocation gate who = .ok g) :
    gate = some g ∧ s.admits g who = true ∧
      ∃ k, s.ctx g.context = some k ∧ k.state ≠ .faulted ∧ k.state.isActive = false ∧
        ¬(g.kind = .nest ∧ Config.chainDepth ≤ s.chain.length) ∧ s.offline = false ∧
        s.accessGiven k.owner k.block = true ∧ (s.span k.owner k.block).any s.carriesFault = false ∧
        (s.span k.owner k.block).any s.heldMark = false := by
  unfold State.checkInvocation at h
  split at h
  · cases h
  · split_ifs at h with hadmits
    split at h
    · cases h
    · rename_i k hk
      split_ifs at h with hfaulted hactive
      unfold State.checkPlacement at h
      split_ifs at h with h6 h7 h8 h9 h10
      cases h
      exact ⟨rfl, by simpa using hadmits, k, hk, hfaulted, by simpa using hactive, h6, by simpa using h7,
        by simpa using h8, by simpa using h9, by simpa using h10⟩

end Sys2Proof.Machine
end

