-- ==== Sys2Proof/Laws/PerInstr.lean ====
section
/-! SUPPORT. Statements made for every command: CommandFrame, the length of a well-formed command's frame (R161). -/

namespace Sys2Proof.Laws

/-- A list of items of n bytes each has n bytes an item. -/
theorem length_flatMap_const {α : Type} (f : α → List Byte) (n : Nat) (h : ∀ a, (f a).length = n) (l : List α) :
    (l.flatMap f).length = n * l.length := by
  induction l with
  | nil => rfl
  | cons a rest ih => rw [List.flatMap_cons, List.length_append, h, ih, List.length_cons]; ring

theorem length_closeFrame (middle : List Byte) : (closeFrame middle).length = middle.length + 2 := by
  simp [closeFrame]

/-- The frame of a well-formed command holds 3 to 255 bytes. -/
def CommandFrame.Statement (i : Instr) : Prop :=
  i.wellFormed = true → 3 ≤ (encodeFrame i).length ∧ (encodeFrame i).length ≤ 255

theorem length_encodeFrame (i : Instr) : (encodeFrame i).length = i.params.length + 3 := by
  simp [encodeFrame, length_closeFrame]

/-- A frame fits when its parameters do. -/
theorem commandFrame_of_params {i : Instr} (h : i.wellFormed = true → i.params.length ≤ 252) :
    CommandFrame.Statement i := by
  intro hwf
  have hparams := h hwf
  rw [length_encodeFrame]
  omega


theorem CommandFrame.echo (p : PortId) (data : List Byte) : CommandFrame.Statement (.echo p data) :=
  commandFrame_of_params fun h => by simpa [Instr.wellFormed, Instr.params] using h

theorem CommandFrame.setPort (p : PortId) (timeout : Byte) : CommandFrame.Statement (.setPort p timeout) :=
  commandFrame_of_params fun _ => Nat.le_of_ble_eq_true rfl

theorem CommandFrame.portReset (p : PortId) (target : Byte) : CommandFrame.Statement (.portReset p target) :=
  commandFrame_of_params fun _ => Nat.le_of_ble_eq_true rfl

theorem CommandFrame.deviceRestart (p : PortId) : CommandFrame.Statement (.deviceRestart p) :=
  commandFrame_of_params fun _ => Nat.le_of_ble_eq_true rfl

theorem CommandFrame.writeMap (p : PortId) (entries : List MapFields) : CommandFrame.Statement (.writeMap p entries) :=
  commandFrame_of_params fun h => by
    have := length_flatMap_const MapFields.bytes 3 (fun _ => rfl) entries
    simp only [Instr.wellFormed, decide_eq_true_eq] at h
    simp only [Instr.params]
    omega

theorem CommandFrame.readMap (p : PortId) (target : Byte) : CommandFrame.Statement (.readMap p target) :=
  commandFrame_of_params fun _ => Nat.le_of_ble_eq_true rfl

theorem CommandFrame.translate (p : PortId) (page : Byte) : CommandFrame.Statement (.translate p page) :=
  commandFrame_of_params fun _ => Nat.le_of_ble_eq_true rfl

theorem CommandFrame.readWords (p : PortId) (page : Byte) (offset : Byte) (count : Byte) : CommandFrame.Statement (.readWords p page offset count) :=
  commandFrame_of_params fun _ => Nat.le_of_ble_eq_true rfl

theorem CommandFrame.writeWords (p : PortId) (page : Byte) (offset : Byte) (count : Byte) (words : List Word) : CommandFrame.Statement (.writeWords p page offset count words) :=
  commandFrame_of_params fun h => by
    have := length_flatMap_const bytes32 4 (fun _ => rfl) words
    simp only [Instr.wellFormed, decide_eq_true_eq] at h
    simp only [Instr.params, List.length_append, List.length_cons, List.length_nil]
    omega

theorem CommandFrame.readPageFaults (p : PortId) : CommandFrame.Statement (.readPageFaults p) :=
  commandFrame_of_params fun _ => Nat.le_of_ble_eq_true rfl

theorem CommandFrame.clearFaults (p : PortId) (pages : PageSet) (kinds : FaultSet) (clearOffline : Bool) : CommandFrame.Statement (.clearFaults p pages kinds clearOffline) :=
  commandFrame_of_params fun _ => Nat.le_of_ble_eq_true rfl

theorem CommandFrame.defineContext (p : PortId) (slot : Byte) (block : BlockFields) : CommandFrame.Statement (.defineContext p slot block) :=
  commandFrame_of_params fun _ => Nat.le_of_ble_eq_true rfl

theorem CommandFrame.setParams (p : PortId) (slot : Byte) (block : BlockFields) : CommandFrame.Statement (.setParams p slot block) :=
  commandFrame_of_params fun _ => Nat.le_of_ble_eq_true rfl

theorem CommandFrame.readContext (p : PortId) (slot : Byte) : CommandFrame.Statement (.readContext p slot) :=
  commandFrame_of_params fun _ => Nat.le_of_ble_eq_true rfl

theorem CommandFrame.clearContext (p : PortId) (slot : Byte) : CommandFrame.Statement (.clearContext p slot) :=
  commandFrame_of_params fun _ => Nat.le_of_ble_eq_true rfl

theorem CommandFrame.freeContext (p : PortId) (slot : Byte) : CommandFrame.Statement (.freeContext p slot) :=
  commandFrame_of_params fun _ => Nat.le_of_ble_eq_true rfl

theorem CommandFrame.writeGate (p : PortId) (gate : Byte) (present : Bool) (fields : GateFields) : CommandFrame.Statement (.writeGate p gate present fields) :=
  commandFrame_of_params fun _ => Nat.le_of_ble_eq_true rfl

theorem CommandFrame.readGate (p : PortId) (first : Byte) (count : Byte) : CommandFrame.Statement (.readGate p first count) :=
  commandFrame_of_params fun _ => Nat.le_of_ble_eq_true rfl

theorem CommandFrame.invoke (p : PortId) (gate : Byte) : CommandFrame.Statement (.invoke p gate) :=
  commandFrame_of_params fun _ => Nat.le_of_ble_eq_true rfl

theorem CommandFrame.hold (p : PortId) (slot : Byte) : CommandFrame.Statement (.hold p slot) :=
  commandFrame_of_params fun _ => Nat.le_of_ble_eq_true rfl

theorem CommandFrame.resume (p : PortId) (slot : Byte) : CommandFrame.Statement (.resume p slot) :=
  commandFrame_of_params fun _ => Nat.le_of_ble_eq_true rfl

theorem CommandFrame.abort (p : PortId) (slot : Byte) : CommandFrame.Statement (.abort p slot) :=
  commandFrame_of_params fun _ => Nat.le_of_ble_eq_true rfl

theorem CommandFrame.readRun (p : PortId) : CommandFrame.Statement (.readRun p) :=
  commandFrame_of_params fun _ => Nat.le_of_ble_eq_true rfl

theorem CommandFrame.configLine (p : PortId) (line : Byte) (fields : LineFields) : CommandFrame.Statement (.configLine p line fields) :=
  commandFrame_of_params fun _ => Nat.le_of_ble_eq_true rfl

theorem CommandFrame.clearLine (p : PortId) (line : Byte) : CommandFrame.Statement (.clearLine p line) :=
  commandFrame_of_params fun _ => Nat.le_of_ble_eq_true rfl

theorem CommandFrame.readLines (p : PortId) : CommandFrame.Statement (.readLines p) :=
  commandFrame_of_params fun _ => Nat.le_of_ble_eq_true rfl

theorem CommandFrame.setTimer (p : PortId) (reload : BitVec 16) (run : Bool) : CommandFrame.Statement (.setTimer p reload run) :=
  commandFrame_of_params fun _ => Nat.le_of_ble_eq_true rfl

theorem CommandFrame.startCheck (p : PortId) (pages : PageSet) (request : StepRequest) : CommandFrame.Statement (.startCheck p pages request) :=
  commandFrame_of_params fun _ => Nat.le_of_ble_eq_true rfl

theorem CommandFrame.abortCheck (p : PortId) : CommandFrame.Statement (.abortCheck p) :=
  commandFrame_of_params fun _ => Nat.le_of_ble_eq_true rfl

theorem CommandFrame.readCheck (p : PortId) : CommandFrame.Statement (.readCheck p) :=
  commandFrame_of_params fun _ => Nat.le_of_ble_eq_true rfl

theorem CommandFrame.readEvents (p : PortId) : CommandFrame.Statement (.readEvents p) :=
  commandFrame_of_params fun _ => Nat.le_of_ble_eq_true rfl

theorem CommandFrame.clearEvents (p : PortId) (flags : Byte) : CommandFrame.Statement (.clearEvents p flags) :=
  commandFrame_of_params fun _ => Nat.le_of_ble_eq_true rfl

theorem CommandFrame.setAttention (p : PortId) (mask : Byte) : CommandFrame.Statement (.setAttention p mask) :=
  commandFrame_of_params fun _ => Nat.le_of_ble_eq_true rfl

theorem CommandFrame.readCompletions (p : PortId) : CommandFrame.Statement (.readCompletions p) :=
  commandFrame_of_params fun _ => Nat.le_of_ble_eq_true rfl

theorem CommandFrame.select (p : PortId) : CommandFrame.Statement (.select p) :=
  commandFrame_of_params fun _ => Nat.le_of_ble_eq_true rfl

theorem CommandFrame.deselect (p : PortId) : CommandFrame.Statement (.deselect p) :=
  commandFrame_of_params fun _ => Nat.le_of_ble_eq_true rfl

theorem CommandFrame.byteExchange (p : PortId) (received : Byte) : CommandFrame.Statement (.byteExchange p received) :=
  commandFrame_of_params fun _ => Nat.le_of_ble_eq_true rfl

theorem CommandFrame.receiveTimerExpiry (p : PortId) : CommandFrame.Statement (.receiveTimerExpiry p) :=
  commandFrame_of_params fun _ => Nat.le_of_ble_eq_true rfl

theorem CommandFrame.dataRunWordAccess (p : PortId) (checkFails : Bool) : CommandFrame.Statement (.dataRunWordAccess p checkFails) :=
  commandFrame_of_params fun _ => Nat.le_of_ble_eq_true rfl

theorem CommandFrame.elementStep (failingRead : Option Nat) : CommandFrame.Statement (.elementStep failingRead) :=
  commandFrame_of_params fun _ => Nat.le_of_ble_eq_true rfl

theorem CommandFrame.pinLevelChange (line : LineId) (level : PinLevel) : CommandFrame.Statement (.pinLevelChange line level) :=
  commandFrame_of_params fun _ => Nat.le_of_ble_eq_true rfl

theorem CommandFrame.debounceExpiry (line : LineId) : CommandFrame.Statement (.debounceExpiry line) :=
  commandFrame_of_params fun _ => Nat.le_of_ble_eq_true rfl

theorem CommandFrame.validationExpiry (line : LineId) : CommandFrame.Statement (.validationExpiry line) :=
  commandFrame_of_params fun _ => Nat.le_of_ble_eq_true rfl

theorem CommandFrame.intervalTimerExpiry : CommandFrame.Statement (.intervalTimerExpiry) :=
  commandFrame_of_params fun _ => Nat.le_of_ble_eq_true rfl

theorem CommandFrame.referenceTestComplete (outcome : TestOutcome) : CommandFrame.Statement (.referenceTestComplete outcome) :=
  commandFrame_of_params fun _ => Nat.le_of_ble_eq_true rfl

theorem CommandFrame.pageTestComplete (outcome : TestOutcome) : CommandFrame.Statement (.pageTestComplete outcome) :=
  commandFrame_of_params fun _ => Nat.le_of_ble_eq_true rfl

theorem CommandFrame.pairTestComplete (outcome : TestOutcome) : CommandFrame.Statement (.pairTestComplete outcome) :=
  commandFrame_of_params fun _ => Nat.le_of_ble_eq_true rfl

theorem CommandFrame.powerOn : CommandFrame.Statement (.powerOn) :=
  commandFrame_of_params fun _ => Nat.le_of_ble_eq_true rfl

theorem CommandFrame.startupComplete (straps : Vector Level 4) : CommandFrame.Statement (.startupComplete straps) :=
  commandFrame_of_params fun _ => Nat.le_of_ble_eq_true rfl

theorem CommandFrame.resetAssert : CommandFrame.Statement (.resetAssert) :=
  commandFrame_of_params fun _ => Nat.le_of_ble_eq_true rfl

theorem CommandFrame.resetRelease (straps : Vector Level 4) : CommandFrame.Statement (.resetRelease straps) :=
  commandFrame_of_params fun _ => Nat.le_of_ble_eq_true rfl

theorem CommandFrame.remainingCountFalls : CommandFrame.Statement (.remainingCountFalls) :=
  commandFrame_of_params fun _ => Nat.le_of_ble_eq_true rfl

end Sys2Proof.Laws
end

