-- ==== Sys2Proof/Laws/Power.lean ====
section
/-! SUPPORT. What the two causes that stop the part, and their ends, leave in each field (R177). -/

namespace Sys2Proof.Machine

theorem Phase.withStartup_ne_operating (ph : Phase) : ph.withStartup ≠ .operating := by cases ph <;> decide

theorem Phase.withReset_ne_operating (ph : Phase) : ph.withReset ≠ .operating := by cases ph <;> decide

@[simp] theorem State.stop_phase (s : State) (ph : Phase) : (s.stop ph).phase = ph := rfl

@[simp] theorem State.stop_port (s : State) (ph : Phase) (p : PortId) : (s.stop ph).port p = (s.port p).loseAll :=
  ofFn_get ..

@[simp] theorem State.stop_eventsAt (s : State) (ph : Phase) (p : PortId) :
    (s.stop ph).eventsAt p = { s.eventsAt p with attention := false } := ofFn_get ..

@[simp] theorem State.start_phase (s : State) (straps : Vector Level 4) (ph : Phase) :
    (s.start straps ph).phase = ph := rfl

@[simp] theorem State.start_words (s : State) (straps : Vector Level 4) (ph : Phase) :
    (s.start straps ph).words = [] := rfl

@[simp] theorem State.start_port (s : State) (straps : Vector Level 4) (ph : Phase) (p : PortId) :
    (s.start straps ph).port p = Port.initial straps[p] (s.port p).selected (s.port p).dataOut := ofFn_get ..

/-- The part starts in every other field as it is after reset, with the pins and the queue as they stand. -/
theorem State.start_eq (s : State) (straps : Vector Level 4) (ph : Phase) :
    s.start straps ph =
      { State.reset with
        phase := ph, pins := s.pins, pending := s.pending
        ports := Vector.ofFn fun p => Port.initial straps[p] (s.port p).selected (s.port p).dataOut } := rfl

end Sys2Proof.Machine
end

