-- ==== Sys2Proof/Laws/StoreCheck.lean ====
section
/-! SUPPORT. The pairs of the DECODE step: which they are, and their order (R151). -/

namespace Sys2Proof.Machine

theorem State.eligible_iff (s : State) (g : PhysicalPage) :
    s.eligible g = true ↔
      s.check.selected.getLsbD g.val = true ∧ s.check.results[g] ≠ some .skipped ∧ s.carriesFault g = false := by
  simp [State.eligible, and_assoc]

theorem State.mem_eligiblePairs (s : State) (x y : PhysicalPage) :
    (x, y) ∈ s.eligiblePairs ↔ s.eligible x = true ∧ s.eligible y = true ∧ x < y := by
  unfold State.eligiblePairs
  simp only [List.mem_flatMap, List.mem_map, List.mem_filter, List.mem_finRange, true_and, Prod.mk.injEq,
    decide_eq_true_eq]
  constructor
  · rintro ⟨a, ha, b, ⟨hb, hab⟩, rfl, rfl⟩
    exact ⟨ha, hb, hab⟩
  · rintro ⟨ha, hb, hab⟩
    exact ⟨x, ha, y, ⟨hb, hab⟩, rfl, rfl⟩

/-- The pairs stand in ascending order, first by the first page, then by the second. -/
theorem State.eligiblePairs_ascend (s : State) : s.eligiblePairs.Pairwise fun x y => pairAfter x y = true := by
  have pages : ((List.finRange 64).filter s.eligible).Pairwise (· < ·) := (List.pairwise_lt_finRange 64).filter _
  simp only [State.eligiblePairs, pairAfter, Bool.or_eq_true, Bool.and_eq_true, decide_eq_true_eq]
  rw [List.pairwise_flatMap]
  refine ⟨fun a _ => ?_, pages.imp ?_⟩
  · rw [List.pairwise_map]
    exact (pages.filter _).imp fun h => Or.inr ⟨rfl, h⟩
  · intro a b hab x hx y hy
    simp only [List.mem_map, List.mem_filter] at hx hy
    obtain ⟨_, _, rfl⟩ := hx
    obtain ⟨_, _, rfl⟩ := hy
    exact Or.inl hab

/-- No pair remains where fewer than two pages are eligible. -/
theorem State.eligiblePairs_eq_nil (s : State) (h : ∀ x y, s.eligible x = true → s.eligible y = true → x = y) :
    s.eligiblePairs = [] := by
  rw [List.eq_nil_iff_forall_not_mem]
  rintro ⟨x, y⟩ hxy
  obtain ⟨hx, hy, lt⟩ := (s.mem_eligiblePairs x y).mp hxy
  exact absurd lt (by rw [h x y hx hy]; exact lt_irrefl _)

end Sys2Proof.Machine
end

