-- ==== Sys2Proof/Tests/Slice0.lean ====
section
/-! SUPPORT. Tests: the manual's own examples, one step at a time, and for each statement of the certificate a state
and operands that meet its hypotheses, clause by clause, with what the command answers there. -/

namespace Sys2Proof.Tests

set_option Elab.async false

open Sys2Proof.Machine

/-! ### Small states -/

/-- The state after one command or event. -/
def after (i : Instr) (s : State) : State :=
  match exec i s with
  | .next t => t
  | .fault _ => s
  | .refused _ => s

/-- What a command leaves pending at its port. -/
def answered (p : PortId) (i : Instr) (s : State) : Option (Status × List Byte) :=
  ((after i s).port p).response.map fun r => (r.status, r.results)

/-- A copy of n words from logical page 0 to logical page 1. -/
def copyBlock (priority : Fin 8) (n : Nat) : Block := ⟨.copy ⟨0, 0, 1⟩ ⟨1, 0, 1⟩, priority, noSats, n⟩

/-- A context in a state, started by its owner where it has been started. -/
def context (st : ContextState) (owner : PortId) (b : Block) : Context :=
  { state := st, owner := owner, block := b
    startedBy := if st = .idle then none else some (.port owner), nested := false
    continuation := ⟨if st = .done then b.count else 0, b.operation.initialPart⟩, seen := noSats
    cause := if st = .faulted then some .store else none }

/-- Logical page 0 onto page 8 to read, logical page 1 onto page 9 to write. -/
def twoPages : WindowMap := update (update absentMap 0 ⟨8, .read⟩) 1 ⟨9, .readWrite⟩

/-- Four ports of levels 0 to 3; port 1 has two pages mapped. -/
def board : State :=
  { State.reset with
    maps := update State.reset.maps 1 twoPages
    ports := Vector.ofFn fun p => Port.initial p false 0 }

/-- Port 1's contexts: C3 running, C8 ready, C6 held, C4 idle, C7 done, C9 faulted; five gates. -/
def working : State :=
  { ((((((board.setCtx 3 (some (context .running 1 (copyBlock 2 4)))).setCtx 8
      (some (context .ready 1 (copyBlock 5 4)))).setCtx 6 (some (context .held 1 (copyBlock 7 4)))).setCtx 4
      (some (context .idle 1 (copyBlock 2 4)))).setCtx 7 (some (context .done 1 (copyBlock 2 4)))).setCtx 9
      (some (context .faulted 1 (copyBlock 2 4)))) with
    chain := [3], ready := [8], heldSet := [6]
    gates := update (update (update (update (update State.reset.gates 0 (some ⟨.nest, 4, 1, true⟩)) 1
      (some ⟨.queue, 4, 3, false⟩)) 2 (some ⟨.queue, 9, 3, true⟩)) 3 (some ⟨.queue, 5, 3, true⟩)) 63
      (some ⟨.queue, 3, 3, true⟩) }

/-- The same contexts with nothing running. -/
def idleBoard : State :=
  { working with
    contexts := update (update working.contexts 3 none) 8 none, chain := [], ready := [] }

/-- A chain of four, C20, C14, C11, C1, with C9 and C17 ready and C25 held (4.11). -/
def chainOfFour : State :=
  { ((((((((board.setCtx 20 (some (context .running 2 (copyBlock 0 4)))).setCtx 14
      (some (context .preempted 1 (copyBlock 0 4)))).setCtx 11 (some (context .preempted 2 (copyBlock 0 4)))).setCtx 1
      (some (context .preempted 3 (copyBlock 0 4)))).setCtx 9 (some (context .ready 2 (copyBlock 3 4)))).setCtx 17
      (some (context .ready 0 (copyBlock 3 4)))).setCtx 25 (some (context .held 2 (copyBlock 0 4)))).setCtx 4
      (some (context .idle 1 (copyBlock 0 4)))) with
    chain := [20, 14, 11, 1], ready := [9, 17], heldSet := [25]
    gates := update State.reset.gates 0 (some ⟨.nest, 4, 3, true⟩) }

/-- A descriptor of a frame. -/
def field (page offset step : Byte) : DescriptorFields := ⟨page, offset, step⟩

/-- The frame fields of a block whose unused fields hold nonsense. -/
def fields (operation priority : Byte) (count : BitVec 16) (x z : DescriptorFields) : BlockFields :=
  { operation := operation, priority := priority, mask := noSats, count := count, taps := 0xEE, shift := 0xEE
    scalar := 0xEEEEEEEE, relation := 0xEE, magnitude := false, x := x, y := field 0xEE 0xEE 0x00, z := z }

/-- A copy of n words in a frame. -/
def copyFields (n : BitVec 16) : BlockFields := fields 0x01 0x02 n (field 0 0 1) (field 1 0 1)

/-! ### Well-formedness: an ill-formed term for each check -/

theorem test_wellFormed_echo : (Instr.echo 0 (List.replicate 253 0)).wellFormed = false := by decide +kernel
theorem test_wellFormed_writeMap : (Instr.writeMap 0 (List.replicate 85 ⟨0, 0, 0⟩)).wellFormed = false := by decide +kernel
theorem test_wellFormed_writeWords :
    (Instr.writeWords 0 0 0 62 (List.replicate 63 0)).wellFormed = false := by decide +kernel
theorem test_wellFormed_elementStep : (Instr.elementStep (some 128)).wellFormed = false := by decide +kernel
theorem test_wellFormed_accepts :
    (Instr.echo 0 (List.replicate 252 0)).wellFormed = true ∧
      (Instr.writeMap 0 (List.replicate 84 ⟨0, 0, 0⟩)).wellFormed = true ∧
      (Instr.writeWords 0 0 0 62 (List.replicate 62 0)).wellFormed = true ∧
      (Instr.elementStep (some 127)).wellFormed = true := by decide +kernel

/-! ### Frames (8.2, 11.1 to 11.4) -/

/-- The example of the check byte: 03H 00H ACH is UNKNOWN, with ADH it is CHECKSUM (8.2). -/
theorem test_checkByte_example :
    crc8 [0x03, 0x00] = 0xAC ∧ crcByte 0xFF 0x03 = 0x33 ∧ decodeFrame 0 [0x03, 0x00, 0xAC] = .error .unknown ∧
      decodeFrame 0 [0x03, 0x00, 0xAD] = .error .checksum := by decide +kernel

/-- The frames of the INVOKE exchange, and a SET_PARAMS whose layout is one byte short (11.4, R187). -/
theorem test_frames_invoke :
    (encodeFrame (.invoke 3 1)).take 3 = [0x04, 0x32, 0x01] ∧ decodeFrame 3 (encodeFrame (.invoke 3 1)) = .ok (.invoke 3 1) ∧
      (Response.frame ⟨0x32, .ok, [0x05, 0x03]⟩).take 5 = [0x06, 0x32, 0x00, 0x05, 0x03] ∧
      (Response.frame ⟨0x32, .busy, []⟩).take 3 = [0x04, 0x32, 0x08] ∧
      readCommand 0 0x20 (List.replicate 23 0x01) = .error .length ∧ readCommand 0 0x20 [] = .error .unknown ∧
      readCommand 0 0x20 [0x02] = .error .unknown := by decide +kernel

theorem witness_FramesRoundTrip :
    (Instr.echo 2 (List.replicate 252 0)).wellFormed = true ∧
      (Instr.echo 2 (List.replicate 252 0)).commandPort = some 2 := by decide +kernel

theorem witness_FramesCloseAndForeignCodesAreUnknown :
    (List.replicate 253 (0 : Byte)).length ≤ 253 ∧
      (0x05 : Byte).toNat ∉ [0x01, 0x02, 0x03, 0x04, 0x10, 0x11, 0x12, 0x13, 0x14, 0x15, 0x16, 0x20, 0x21, 0x22, 0x23,
        0x30, 0x31, 0x32, 0x40, 0x41, 0x42, 0x43, 0x50, 0x51, 0x52, 0x53, 0x60, 0x61, 0x62, 0x70, 0x71, 0x72, 0x73] ∧
      ((0x02 : Byte) ≠ 0x00 ∧ (0x02 : Byte) ≠ 0x01) := by decide +kernel

/-- Lengths at the ends of what a layout admits, and beyond them; passed-over bits and yes bytes (R187, R188). -/
theorem test_frame_lengths_and_field_bytes :
    (readCommand 0 0x10 []).toOption.isSome ∧ (readCommand 0 0x10 (List.replicate 252 0)).toOption.isSome ∧
      readCommand 0 0x10 (List.replicate 4 0) = .error .length ∧
      (readCommand 0 0x14 [1, 2, 1]).toOption.isSome ∧ (readCommand 0 0x14 (List.replicate 251 0)).toOption.isSome ∧
      readCommand 0 0x14 [1, 2] = .error .length ∧ readCommand 0 0x43 [0] = .error .length ∧
      (readCommand 0 0x20 (0x01 :: List.replicate 23 0)).toOption.isSome ∧
      readCommand 0 0x20 (0x01 :: List.replicate 24 0) = .error .length ∧
      readCommand 0 0x16 [1, 0, 0, 0, 0, 0, 0, 0x80, 0xFA, 0x55] =
        .ok (.clearFaults 0 (BitVec.ofNat 64 (2 ^ 63 + 1)) ⟨false, true, false⟩ true) ∧
      readCommand 0 0x30 [7, 0xFF, 1, 2, 3, 0x80] = .ok (.writeGate 0 7 true ⟨1, 2, 3, true⟩) := by decide +kernel

theorem witness_StepTakesTheFrontOfTheQueue :
    State.reset.pending = [] ∧ (State.reset.withPending [.resetAssert, .powerOn]).pending ≠ [] := by decide +kernel

theorem witness_AnswerReplacesPendingResponse : (List.replicate 251 (0 : Byte)).length ≤ 251 := by decide +kernel

/-! ### Port commands -/

theorem witness_EchoReturnsItsData :
    board.takes 3 ∧ answered 3 (.echo 3 [0xA5]) board = some (.ok, [0xA5]) ∧
      answered 3 (.echo 3 (List.replicate 250 1)) board = some (.ok, List.replicate 250 1) ∧
      answered 3 (.echo 3 []) board = some (.param, []) ∧
      answered 3 (.echo 3 (List.replicate 251 1)) board = some (.param, []) := by decide +kernel

theorem witness_SetPortSetsReceiveTimeout :
    board.takes 2 ∧ answered 2 (.setPort 2 255) board = some (.ok, [2, 2, 255]) ∧
      ((after (.setPort 2 0) board).port 2).timeout = 0 := by decide +kernel

theorem witness_WithdrawalKeepsOrderAndRunsSuccessor :
    (chainOfFour.withdraw (· = 20)).chain = [14, 11, 1] ∧
      ((chainOfFour.withdraw (· = 20)).ctx 14).map (·.state) = some .running ∧
      (working.withdraw (· = 3)).chain = [8] ∧ (working.withdraw (· = 3)).ready = [] ∧
      (working.withdraw fun c => c = 3 || c = 8).chain = [] := by decide +kernel

/-- PORT_RESET of P2 in the chain of four, case B of 4.11; and the refusals of R172. -/
theorem witness_PortResetClearsTheTargetPort :
    chainOfFour.takes 2 ∧ indexOf 4 (4 : Byte) = none ∧ answered 2 (.portReset 2 4) chainOfFour = some (.param, []) ∧
      answered 2 (.portReset 2 3) chainOfFour = some (.denied, []) ∧
      answered 2 (.portReset 2 2) chainOfFour = some (.ok, []) ∧
      (after (.portReset 2 2) chainOfFour).chain = [14, 1] ∧ (after (.portReset 2 2) chainOfFour).ready = [17] ∧
      (after (.portReset 2 2) chainOfFour).heldSet = [] ∧ (after (.portReset 2 2) chainOfFour).ctx 20 = none ∧
      (after (.portReset 2 2) chainOfFour).backLink 14 = some 1 := by decide +kernel

theorem test_portReset_other :
    chainOfFour.takes 0 ∧ chainOfFour.level 0 = 0 ∧ answered 0 (.portReset 0 3) chainOfFour = some (.ok, []) ∧
      (after (.portReset 0 3) chainOfFour).chain = [20, 14, 11] ∧
      ((after (.portReset 0 1) chainOfFour).entry 1 1).access = .absent := by decide +kernel

/-- A word of page 9, which a check tests, and one of page 10. -/
def checking (current : CurrentTest) : State :=
  { board with
    words := [(9 * 256, 5), (10 * 256, 6)]
    heldMarks := update (update board.heldMarks 9 true) 11 true
    check := { acceptedRecord 1 (BitVec.ofNat 64 (2 ^ 9 + 2 ^ 11)) ⟨true, true⟩ false with current := current } }

theorem witness_DeviceRestartKeepsWordsFaultsAndLevels :
    board.takes 1 ∧ board.level 1 ≠ 0 ∧ answered 1 (.deviceRestart 1) board = some (.denied, []) ∧
      (checking (.page 9)).takes 0 ∧ (checking (.page 9)).level 0 = 0 ∧
      (after (.deviceRestart 0) (checking (.page 9))).words = [(10 * 256, 6)] ∧
      (after (.deviceRestart 0) (checking .reference)).words = [(9 * 256, 5), (10 * 256, 6)] ∧
      (after (.deviceRestart 0) (checking (.page 9))).level 3 = 3 := by decide +kernel

/-! ### Store and map commands -/

/-- Sixteen entries, one for each logical page, all ABSENT. -/
def sixteenEntries : List MapFields := (List.range 16).map fun l => ⟨byteOfNat l, 63, 0⟩

/-- Page 12 carries WORD; a check holds page 13; port 1 maps both beside its own. -/
def badPages : State :=
  { board with
    faults := update board.faults 12 ⟨false, false, true⟩
    heldMarks := update board.heldMarks 13 true
    maps := update board.maps 1 (update (update (update twoPages 2 ⟨12, .readWrite⟩) 3 ⟨13, .readWrite⟩) 15
      ⟨8, .readWrite⟩) }

theorem witness_WriteMapWritesTheListedEntries :
    answered 3 (.writeMap 3 []) board = some (.param, []) ∧
      answered 3 (.writeMap 3 [⟨0, 63, 3⟩]) board = some (.param, []) ∧
      answered 3 (.writeMap 3 [⟨0, 1, 1⟩, ⟨0, 2, 1⟩]) board = some (.param, []) ∧
      working.mapLocked 1 = true ∧ answered 1 (.writeMap 1 sixteenEntries) working = some (.mapLocked, []) ∧
      answered 3 (.writeMap 3 [⟨15, 12, 1⟩]) badPages = some (.pageFault, []) ∧
      answered 3 (.writeMap 3 [⟨15, 12, 0⟩]) badPages = some (.ok, []) ∧
      (after (.writeMap 3 [⟨15, 63, 2⟩]) badPages).entry 3 15 = ⟨63, .readWrite⟩ ∧
      answered 3 (.writeMap 3 sixteenEntries) board = some (.ok, []) ∧ board.takes 3 ∧ badPages.takes 3 ∧
      working.takes 1 ∧ badPages.mapLocked 3 = false := by decide +kernel

theorem witness_StoreReadsReturnMapsAndPageState :
    badPages.takes 1 ∧ answered 1 (.readMap 1 4) badPages = some (.param, []) ∧
      (answered 1 (.readMap 1 1) badPages).map (fun r => r.2.take 6) = some [8, 1, 9, 2, 12, 2] ∧
      answered 1 (.translate 1 16) badPages = some (.param, []) ∧
      answered 1 (.translate 1 2) badPages = some (.ok, [12, 2, 0x04]) ∧
      answered 1 (.translate 1 3) badPages = some (.ok, [13, 2, 0x80]) ∧
      (answered 1 (.readPageFaults 1) badPages).map (fun r => (r.2.length, r.2.drop 11)) =
        some (65, 0x00 :: 0x04 :: 0x80 :: List.replicate 51 0x00) := by decide +kernel

theorem witness_DataCommandsCheckThenStartTheRun :
    badPages.takes 1 ∧ badPages.offline = false ∧ answered 1 (.readWords 1 0 0 0) badPages = some (.param, []) ∧
      answered 1 (.readWords 1 0 0 63) badPages = some (.param, []) ∧
      answered 1 (.readWords 1 15 250 7) badPages = some (.range, []) ∧
      ((after (.readWords 1 15 250 6) badPages).port 1).run = some (.read 4090 6 []) ∧
      answered 1 (.readWords 1 4 0 1) badPages = some (.mapAccess, []) ∧
      answered 1 (.readWords 1 1 240 20) badPages = some (.pageFault, []) ∧
      answered 1 (.readWords 1 3 0 1) badPages = some (.pageHeld, []) ∧
      answered 1 (.readWords 1 0 0 1) { badPages with offline := true } = some (.offline, []) := by decide +kernel

theorem test_writeWords_checks :
    answered 1 (.writeWords 1 1 0 2 [7]) badPages = some (.param, []) ∧
      answered 1 (.writeWords 1 15 255 2 [7, 8]) badPages = some (.range, []) ∧
      answered 1 (.writeWords 1 0 0 1 [7]) badPages = some (.mapAccess, []) ∧
      answered 1 (.writeWords 1 2 0 1 [7]) badPages = some (.pageFault, []) ∧
      answered 1 (.writeWords 1 3 255 1 [7]) badPages = some (.pageHeld, []) ∧
      answered 1 (.writeWords 1 1 0 1 [7]) { badPages with offline := true } = some (.offline, []) ∧
      ((after (.writeWords 1 15 255 1 [7]) badPages).port 1).run = some (.write 4095 [7] 0) := by decide +kernel

/-- Port 1 of a state with a data run in progress. -/
def inRun (run : DataRun) (s : State) : State := s.modPort 1 fun pt => { pt with run := some run }

/-- Logical address 256 of port 1 reaches word 0 of page 9, which holds 5. -/
def storeBoard : State := { badPages with words := [(9 * 256, 5)] }

theorem witness_DataRunAccessesOneWord :
    storeBoard.phase = .operating ∧ Memory.wf storeBoard.words ∧
      storeBoard.pageRefusal (storeBoard.entryFor 1 256).page = none ∧ (storeBoard.port 1).kept = none ∧
      ((after (.dataRunWordAccess 1 false) (inRun (.read 256 2 []) storeBoard)).port 1).run =
        some (.read 257 1 [5]) ∧
      answered 1 (.dataRunWordAccess 1 false) (inRun (.read 256 1 []) storeBoard) = some (.ok, [0, 0, 0, 5]) ∧
      (after (.dataRunWordAccess 1 true) (inRun (.write 256 [7] 61) storeBoard)).words = [(9 * 256, 7)] ∧
      answered 1 (.dataRunWordAccess 1 true) (inRun (.write 256 [7] 61) storeBoard) = some (.ok, [62]) ∧
      ((after (.dataRunWordAccess 1 false) (inRun (.write 256 [7, 8] 0) storeBoard)).port 1).run =
        some (.write 257 [8] 1) := by decide +kernel

theorem witness_DataRunsEndAtBadPagesAndWords :
    (inRun (.read 512 1 []) badPages).phase = .operating ∧ ((inRun (.read 512 1 []) badPages).port 1).kept = none ∧
      badPages.pageRefusal (badPages.entryFor 1 512).page = some .pageFault ∧
      badPages.pageRefusal (badPages.entryFor 1 768).page = some .pageHeld ∧
      answered 1 (.dataRunWordAccess 1 true) (inRun (.read 512 1 []) badPages) = some (.pageFault, []) ∧
      answered 1 (.dataRunWordAccess 1 false) (inRun (.write 768 [7] 3) badPages) = some (.pageHeld, [3]) ∧
      answered 1 (.dataRunWordAccess 1 false) { inRun (.read 256 1 []) badPages with offline := true } =
        some (.offline, []) ∧
      answered 1 (.dataRunWordAccess 1 true) (inRun (.read 255 9 [4]) badPages) = some (.wordFault, [0, 255]) ∧
      (after (.dataRunWordAccess 1 true) (inRun (.read 255 9 [4]) badPages)).faultsOf 8 = ⟨false, false, true⟩ ∧
      ((after (.dataRunWordAccess 1 true) (inRun (.read 255 9 [4]) badPages)).eventsAt 1).flags = flagPage := by decide +kernel

theorem witness_KeptFrameIsTakenAfterTheRun :
    (Instr.setPort 1 9).commandPort = some 1 ∧ ((inRun (.read 256 1 []) storeBoard).port 1).kept = none ∧
      ((after (.setPort 1 9) (inRun (.read 256 1 []) storeBoard)).port 1).kept = some (encodeFrame (.setPort 1 9)) ∧
      ((after (.setPort 1 9) (inRun (.read 256 1 []) storeBoard)).port 1).timeout = 20 ∧
      ((after (.dataRunWordAccess 1 false) (after (.setPort 1 9) (inRun (.read 256 1 []) storeBoard))).port 1).timeout =
        9 := by decide +kernel

/-- A kept frame while its run goes on, at its end, and at an end where it fails its check or its code test. -/
theorem witness_KeptFrameAtAWordAccess :
    let keeping : List Byte → Nat → State := fun frame left =>
      (inRun (.read 256 left []) storeBoard).modPort 1 fun pt => { pt with kept := some frame }
    let good : List Byte := encodeFrame (.setPort 1 9)
    (keeping good 2).phase = .operating ∧ ((keeping good 2).port 1).run ≠ none ∧
      ((after (.dataRunWordAccess 1 false) (keeping good 2)).port 1).kept = some good ∧
      ((after (.dataRunWordAccess 1 false) (keeping good 2)).port 1).run = some (.read 257 1 [5]) ∧
      crc8 good = 0x00 ∧ readCommand 1 (good.getD 1 0x00) (good.drop 2).dropLast = .ok (.setPort 1 9) ∧
      answered 1 (.dataRunWordAccess 1 false) (keeping good 1) = some (.ok, [1, 1, 9]) ∧
      answered 1 (.dataRunWordAccess 1 false) (keeping [0x03, 0x00, 0xAC] 1) = some (.unknown, []) ∧
      answered 1 (.dataRunWordAccess 1 true) (keeping [0x03, 0x00, 0xAD] 1) = some (.checksum, []) := by decide +kernel

theorem witness_ClearFaultsRemovesTheNamedKinds :
    badPages.takes 0 ∧ badPages.takes 1 ∧ badPages.level 1 ≠ 0 ∧ badPages.level 0 = 0 ∧
      answered 1 (.clearFaults 1 1 ⟨true, true, true⟩ true) badPages = some (.denied, []) ∧
      answered 0 (.clearFaults 0 1 noFaults false) badPages = some (.param, []) ∧
      answered 0 (.clearFaults 0 0 noFaults true) (checking .reference) = some (.busy, []) ∧
      (after (.clearFaults 0 (BitVec.ofNat 64 (2 ^ 12)) ⟨false, true, true⟩ false) badPages).faultsOf 12 = noFaults ∧
      (after (.clearFaults 0 0 noFaults true) { badPages with offline := true }).offline = false := by decide +kernel

/-! ### Context commands -/

/-- The examples of the range check (R26). -/
theorem test_range_examples :
    (Operand.mk ⟨0, 10, -1⟩ 0 11 false).inRange = true ∧ (Operand.mk ⟨0, 10, -1⟩ 0 12 false).inRange = false ∧
      (Operand.mk ⟨2, 0, 1⟩ (-7) 263 false).inRange = true ∧ (Operand.mk ⟨0, 4, 1⟩ (-7) 263 false).inRange = false ∧
      (Operand.mk ⟨0, 4, 1⟩ 0 256 false).inRange = true ∧ (Operand.mk ⟨5, 200, 1⟩ 0 101 true).inRange = true ∧
      (Operand.mk ⟨0, 0, 1⟩ 0 4096 false).inRange = true ∧ (Operand.mk ⟨0, 0, 2⟩ 0 4096 false).inRange = false := by
  decide +kernel

/-- The FIR of 2.12 passes; unused fields are passed over; a step of 17 and a REVERSE of 3 are PARAM. -/
theorem test_block_examples :
    (checkBlock { fields 0x08 4 256 (field 2 0 1) (field 4 0 1) with taps := 8, shift := 15, y := field 3 0 1 }).toOption =
        some ⟨.fir 8 15 ⟨2, 0, 1⟩ ⟨3, 0, 1⟩ ⟨4, 0, 1⟩, 4, noSats, 256⟩ ∧
      (checkBlock (copyFields 4096)).toOption = none ∧
      parseBlock { copyFields 4 with x := field 0 0 0x11 } = none ∧
      parseBlock (fields 0x0D 0 3 (field 0 0 1) (field 0 0 0)) = none ∧
      parseBlock (fields 0x0D 0 1024 (field 0 0 1) (field 0 0 0)) = some ⟨.reverse ⟨0, 0, 1⟩, 0, noSats, 1024⟩ ∧
      parseBlock { copyFields 4 with x := field 0 0 0xF0 } =
        some ⟨.copy ⟨0, 0, -16⟩ ⟨1, 0, 1⟩, 2, noSats, 4⟩ := by decide +kernel

/-- Blocks whose last checked address is 4095 and one beyond, where the checked indices differ by operation (R24). -/
theorem witness_BlockIsCheckedForParamAndRange :
    1 ≤ (Operand.mk ⟨0, 0, 1⟩ 0 1 false).count ∧
      checkBlock (copyFields 0) = .error .param ∧ checkBlock (copyFields 4096) = .error .range ∧
      checkBlock (fields 0x01 0 256 (field 15 0 1) (field 15 0 1)) =
        .ok ⟨.copy ⟨15, 0, 1⟩ ⟨15, 0, 1⟩, 0, noSats, 256⟩ ∧
      checkBlock { fields 0x08 0 1 (field 0 6 1) (field 0 0 1) with taps := 8, shift := 0, y := field 0 0 1 } =
        .error .range ∧
      (checkBlock { fields 0x09 0 1 (field 0 6 1) (field 0 0 1) with
        taps := 8, shift := 0, y := field 0 0 1 }).toOption.isSome ∧
      (checkBlock { fields 0x07 0 9 (field 0 0 1) (field 15 255 1) with shift := 0, y := field 0 0 1 }).toOption.isSome ∧
      checkBlock { fields 0x0B 0 1 (field 0 0 1) (field 15 255 1) with relation := 0 } = .error .range ∧
      checkBlock (fields 0x0C 0 1 (field 0 0 1) (field 15 255 1)) = .error .range ∧
      (checkBlock (fields 0x0C 0 1 (field 0 0 1) (field 15 254 1))).toOption.isSome := by decide +kernel

theorem witness_DefineContextFillsAFreeSlot :
    working.takes 2 ∧ answered 2 (.defineContext 2 32 (copyFields 4)) working = some (.param, []) ∧
      answered 2 (.defineContext 2 3 (copyFields 4)) working = some (.state, []) ∧
      answered 2 (.defineContext 2 31 (copyFields 0)) working = some (.param, []) ∧
      answered 2 (.defineContext 2 31 (copyFields 4096)) working = some (.range, []) ∧
      (after (.defineContext 2 31 (copyFields 4)) working).ctx 31 = some (context .idle 2 (copyBlock 2 4)) := by decide +kernel

theorem witness_SetParamsReplacesTheBlock :
    working.takes 1 ∧ working.takes 2 ∧ answered 1 (.setParams 1 32 (copyFields 4)) working = some (.param, []) ∧
      answered 1 (.setParams 1 31 (copyFields 4)) working = some (.noContext, []) ∧
      answered 2 (.setParams 2 7 (copyFields 4)) working = some (.denied, []) ∧
      answered 1 (.setParams 1 3 (copyFields 4)) working = some (.busy, []) ∧
      answered 1 (.setParams 1 7 (copyFields 0)) working = some (.param, []) ∧
      ((after (.setParams 1 7 (copyFields 9)) working).ctx 7).map (·.continuation.next) = some 9 ∧
      ((after (.setParams 0 9 (copyFields 9)) working).ctx 9).map (·.cause) = some (some .store) := by decide +kernel

theorem witness_ClearAndFreeContext :
    working.takes 1 ∧ answered 1 (.clearContext 1 32) working = some (.param, []) ∧
      answered 1 (.clearContext 1 31) working = some (.noContext, []) ∧
      answered 2 (.clearContext 2 9) working = some (.denied, []) ∧
      answered 1 (.clearContext 1 6) working = some (.busy, []) ∧
      answered 1 (.clearContext 1 4) working = some (.state, []) ∧
      ((after (.clearContext 1 9) working).ctx 9).map (·.state) = some .idle := by decide +kernel

/-- A notice for C7 at port 2 and a line that last started it go with its slot; the flag stays (R40, R136). -/
def noticed : State :=
  ((working.modEvents 2 fun e => e.post 7 .done).modLine 5 fun n => { n with lastStarted := some 7 })

theorem test_freeContext :
    answered 1 (.freeContext 1 32) working = some (.param, []) ∧
      answered 1 (.freeContext 1 31) working = some (.noContext, []) ∧
      answered 3 (.freeContext 3 7) working = some (.denied, []) ∧
      answered 1 (.freeContext 1 3) working = some (.busy, []) ∧ noticed.takes 1 ∧
      (after (.freeContext 1 7) noticed).ctx 7 = none ∧
      ((after (.freeContext 1 7) noticed).eventsAt 2).entries = [] ∧
      ((after (.freeContext 1 7) noticed).eventsAt 2).flags = flagCompletion ∧
      ((after (.freeContext 1 7) noticed).line 5).lastStarted = none := by decide +kernel

theorem witness_RecordReadsChangeNothing :
    working.takes 3 ∧ answered 3 (.readContext 3 32) working = some (.param, []) ∧
      (answered 3 (.readContext 3 31) working).map (·.2) = some freeRecord ∧ freeRecord.length = 39 ∧
      (answered 3 (.readContext 3 8) working).map (fun r => r.2.take 7) = some [2, 1, 1, 5, 0, 0, 4] ∧
      answered 3 (.readGate 3 63 2) working = some (.param, []) ∧ answered 3 (.readGate 3 0 17) working = some (.param, []) ∧
      answered 3 (.readGate 3 0 0) working = some (.param, []) ∧
      answered 3 (.readGate 3 62 2) working = some (.ok, [0, 255, 255, 255, 255, 1, 1, 3, 3, 1]) := by decide +kernel

/-- The whole record of a preempted context with a back link, and of a faulted one that a line started. -/
theorem test_readContext_bytes :
    let lineStarted := working.modCtx 9 fun k =>
      { k with startedBy := some (.line 7), nested := true, continuation := ⟨258, .peak (some (5, 9))⟩
               seen := ⟨true, true⟩ }
    (answered 3 (.readContext 3 14) chainOfFour).map (·.2) =
        some ([4, 1, 1, 0, 0, 0, 4, 255, 255, 255, 255, 255, 255, 255, 255, 0, 0, 1, 255, 0, 0, 1, 0, 1] ++
          [1, 11, 0, 0, 0] ++ List.replicate 8 0 ++ [0, 0]) ∧
      (answered 3 (.readContext 3 9) lineStarted).map (fun r => r.2.drop 24) =
        some [0x17, 255, 1, 1, 2, 0, 0, 0, 5, 0, 9, 0, 0, 3, 1] := by decide +kernel

theorem test_readRun_readLines_readCheck :
    answered 3 (.readRun 3) working = some (.ok, [3, 1, 3, 1, 8, 1, 6]) ∧
      (answered 3 (.readLines 3) working).map (fun r => (r.2.length, r.2.take 11, r.2.drop 88)) =
        some (94, [0, 0, 0, 2, 5, 0, 0, 0, 0, 0, 255], [0, 0, 0, 10, 0, 0]) ∧
      (answered 3 (.readCheck 3) working).map (fun r => (r.2.length, r.2.take 17)) =
        some (81, [0, 255, 0, 0, 0, 0, 0, 0, 0, 0, 0, 0, 0, 0, 255, 255, 0]) ∧
      (answered 3 (.readCheck 3) (checking (.pair 9 11))).map (fun r => (r.2.take 17).drop 2) =
        some [0, 10, 0, 0, 0, 0, 0, 0, 7, 0, 0, 3, 9, 11, 0] := by decide +kernel

/-! ### Gate commands -/

theorem witness_WriteGateWritesOneRecord :
    working.takes 0 ∧ working.takes 1 ∧ answered 1 (.writeGate 1 0 false ⟨0, 0, 0, false⟩) working = some (.denied, []) ∧
      answered 0 (.writeGate 0 64 false ⟨0, 0, 0, false⟩) working = some (.param, []) ∧
      answered 0 (.writeGate 0 63 true ⟨2, 31, 3, true⟩) working = some (.param, []) ∧
      answered 0 (.writeGate 0 63 true ⟨1, 32, 3, true⟩) working = some (.param, []) ∧
      answered 0 (.writeGate 0 63 true ⟨1, 31, 4, true⟩) working = some (.param, []) ∧
      (after (.writeGate 0 63 true ⟨1, 31, 3, true⟩) working).gate 63 = some ⟨.queue, 31, 3, true⟩ ∧
      (after (.writeGate 0 62 true ⟨0, 0, 0, false⟩) working).gate 62 = some ⟨.nest, 0, 0, false⟩ ∧
      (after (.writeGate 0 0 false ⟨9, 99, 9, true⟩) working).gate 0 = none := by decide +kernel

/-- The ten checks, each failing first: C4 through G0 and G1, C9 through G2, C5 through G3, C3 through G63. -/
theorem witness_InvokeIsRefusedInOrder :
    working.takes 1 ∧ chainOfFour.takes 1 ∧ answered 1 (.invoke 1 64) working = some (.noGate, []) ∧
      answered 1 (.invoke 1 62) working = some (.noGate, []) ∧ answered 2 (.invoke 2 0) working = some (.denied, []) ∧
      answered 3 (.invoke 3 3) working = some (.noContext, []) ∧
      answered 3 (.invoke 3 2) working = some (.ctxFaulted, []) ∧ answered 3 (.invoke 3 63) working = some (.busy, []) ∧
      answered 1 (.invoke 1 0) { chainOfFour with offline := true } = some (.nestDepth, []) ∧
      answered 1 (.invoke 1 0) { working with offline := true } = some (.offline, []) ∧
      answered 1 (.invoke 1 1) { working with maps := State.reset.maps } = some (.mapAccess, []) := by decide +kernel

/-- A block that reaches logical pages 0 and 1 of port 1 alone, and what its map gives it (R41). -/
theorem witness_SpanAndAccess :
    let b : Block := ⟨.copy ⟨0, 255, 1⟩ ⟨1, 0, 1⟩, 0, noSats, 2⟩
    b.inRange = true ∧ board.span 1 b = [8, 9] ∧ board.accessGiven 1 b = true ∧ board.accessGiven 2 b = false ∧
      ({ board with maps := update board.maps 1 (update twoPages 1 ⟨9, .read⟩) } : State).accessGiven 1 b = false := by
  decide +kernel

/-- Checks 9 and 10: a page both faulted and held is PAGE_FAULT. -/
theorem test_invoke_pages :
    let held := update board.heldMarks 9 true
    answered 1 (.invoke 1 1) { working with faults := update board.faults 9 ⟨true, false, false⟩, heldMarks := held } =
        some (.pageFault, []) ∧
      answered 1 (.invoke 1 1) { working with heldMarks := held } = some (.pageHeld, []) := by decide +kernel

/-- The three placements; the INVOKE exchange of 11.4 answers the context and RUNNING. -/
theorem witness_InvokeAcceptsAndPlaces :
    idleBoard.takes 1 ∧ working.takes 1 ∧ answered 1 (.invoke 1 0) idleBoard = some (.ok, [4, 3]) ∧
      (after (.invoke 1 0) idleBoard).chain = [4] ∧ answered 3 (.invoke 3 1) working = some (.ok, [4, 2]) ∧
      (after (.invoke 3 1) working).ready = [8, 4] ∧ answered 1 (.invoke 1 0) working = some (.ok, [4, 3]) ∧
      (after (.invoke 1 0) working).chain = [4, 3] ∧
      ((after (.invoke 1 0) working).ctx 3).map (·.state) = some .preempted ∧
      ((after (.invoke 1 0) working).ctx 4).map (·.nested) = some true := by decide +kernel

/-! ### Run commands -/

/-- The ready list order of 4.10. -/
theorem test_ready_list_order :
    let priority : ContextId → Nat := fun c => if c = 8 ∨ c = 10 then 5 else if c = 6 then 7 else 2
    insertByPriority priority 6 (insertByPriority priority 10 (insertByPriority priority 4
      (insertByPriority priority 8 []))) = [6, 8, 10, 4] := by decide +kernel

theorem witness_HoldMovesAContextToTheHeldSet :
    working.takes 1 ∧ chainOfFour.takes 0 ∧ answered 1 (.hold 1 32) working = some (.param, []) ∧
      answered 1 (.hold 1 31) working = some (.noContext, []) ∧ answered 2 (.hold 2 8) working = some (.denied, []) ∧
      answered 1 (.hold 1 6) working = some (.state, []) ∧ answered 0 (.hold 0 1) chainOfFour = some (.chained, []) ∧
      answered 0 (.hold 0 20) chainOfFour = some (.chained, []) ∧ chainOfFour.backLink 20 = some 14 ∧
      working.backLink 3 = none ∧ answered 1 (.hold 1 3) working = some (.ok, []) ∧
      (after (.hold 1 3) working).chain = [8] ∧ (after (.hold 1 3) working).heldSet = [3, 6] ∧
      (after (.hold 1 8) working).ready = [] ∧ (after (.hold 1 8) working).heldSet = [6, 8] := by decide +kernel

theorem witness_ResumeContinuesAHeldContext :
    working.takes 1 ∧ idleBoard.takes 1 ∧ answered 1 (.resume 1 32) working = some (.param, []) ∧
      answered 1 (.resume 1 31) working = some (.noContext, []) ∧ answered 2 (.resume 2 6) working = some (.denied, []) ∧
      answered 1 (.resume 1 3) working = some (.state, []) ∧ answered 1 (.resume 1 6) working = some (.ok, [2]) ∧
      (after (.resume 1 6) working).ready = [6, 8] ∧ answered 1 (.resume 1 6) idleBoard = some (.ok, [3]) ∧
      (after (.resume 1 6) idleBoard).chain = [6] ∧ (after (.resume 1 6) idleBoard).heldSet = [] := by decide +kernel

/-- Case A of 4.11: C11 is spliced out, C20 keeps running, and the owner gets the FAULTED notice. -/
theorem witness_AbortFaultsAnActiveContext :
    chainOfFour.takes 2 ∧ answered 2 (.abort 2 32) chainOfFour = some (.param, []) ∧
      answered 2 (.abort 2 31) chainOfFour = some (.noContext, []) ∧
      answered 2 (.abort 2 1) chainOfFour = some (.denied, []) ∧ answered 0 (.abort 0 4) chainOfFour = some (.state, []) ∧
      (after (.abort 2 11) chainOfFour).chain = [20, 14, 1] ∧ (after (.abort 2 11) chainOfFour).backLink 14 = some 1 ∧
      ((after (.abort 2 11) chainOfFour).ctx 11).map (·.cause) = some (some .aborted) ∧
      ((after (.abort 2 11) chainOfFour).eventsAt 2).flags = 0x03 ∧
      ((after (.abort 2 11) chainOfFour).eventsAt 2).entries = [(11, .faulted)] ∧
      (after (.abort 2 20) chainOfFour).chain = [14, 11, 1] ∧
      (after (.abort 2 25) chainOfFour).heldSet = [] := by decide +kernel

/-! ### Line and timer commands -/

/-- The configuration fields of a frame: D, V and the rest at the ends of their ranges. -/
def lineFields : LineFields := ⟨true, 0, 1, 63, 63, 7, 63, 3⟩

theorem witness_ConfigLineRewritesALine :
    working.takes 1 ∧ working.takes 2 ∧ answered 2 (.configLine 2 0 lineFields) working = some (.denied, []) ∧
      answered 1 (.configLine 1 8 lineFields) working = some (.param, []) ∧
      answered 1 (.configLine 1 7 { lineFields with edge := 2 }) working = some (.param, []) ∧
      answered 1 (.configLine 1 7 { lineFields with debounce := 64 }) working = some (.param, []) ∧
      (after (.configLine 1 7 lineFields) working).line 7 = Line.configured ⟨true, .pin, .falling, 63, 63, 7, 63, 3⟩ := by
  decide +kernel

/-- Line 2 with D = 2 and V = 5, and the changes of its record that a test makes. -/
def withLine (change : Line → Line) (s : State) : State :=
  s.modLine 2 fun _ => change
    { Line.initial with config := ⟨true, .pin, .falling, 2, 5, 6, 1, 1⟩, state := .listening }

theorem witness_ClearLineAndSetTimer :
    let refused := withLine (fun n => { n with state := .refused, lastRefusal := some .noGate }) working
    refused.takes 3 ∧ answered 3 (.clearLine 3 8) refused = some (.param, []) ∧
      answered 3 (.clearLine 3 2) refused = some (.denied, []) ∧ answered 1 (.clearLine 1 3) refused = some (.state, []) ∧
      ((after (.clearLine 1 2) refused).line 2).state = .listening ∧
      ((after (.clearLine 1 2) refused).line 2).lastRefusal = some .noGate ∧
      answered 2 (.setTimer 2 1 true) working = some (.denied, []) ∧
      answered 1 (.setTimer 1 0 true) working = some (.param, []) ∧
      (after (.setTimer 1 65535 true) working).timer = ⟨true, 65535, 65535⟩ ∧
      (after (.setTimer 1 7 false) { working with timer := ⟨true, 3, 2⟩ }).timer = ⟨false, 7, 2⟩ := by decide +kernel

/-! ### Check commands -/

theorem witness_StartCheckHoldsTheSelectedPages :
    working.takes 1 ∧ answered 2 (.startCheck 2 1 ⟨true, true⟩) working = some (.denied, []) ∧
      answered 1 (.startCheck 1 0 ⟨true, true⟩) working = some (.param, []) ∧
      answered 1 (.startCheck 1 1 ⟨true, true⟩) (checking .reference) = some (.busy, []) ∧
      answered 1 (.startCheck 1 (BitVec.ofNat 64 (2 ^ 9)) ⟨true, true⟩) working = some (.pageInUse, []) ∧
      (after (.startCheck 1 (BitVec.ofNat 64 (2 ^ 63)) ⟨true, true⟩) working).heldMark 63 = true ∧
      (after (.startCheck 1 (BitVec.ofNat 64 (2 ^ 63)) ⟨true, true⟩) working).check.current = .reference ∧
      (after (.startCheck 1 1 ⟨true, false⟩) { working with offline := true }).check.state = .ended ∧
      (after (.startCheck 1 1 ⟨true, false⟩) { working with offline := true }).check.omitted = ⟨true, true, false⟩ ∧
      ((after (.startCheck 1 1 ⟨true, false⟩) { working with offline := true }).eventsAt 1).flags = flagCheck := by decide +kernel

theorem witness_AbortCheckEndsTheRunningCheck :
    (checking (.page 9)).takes 1 ∧ answered 2 (.abortCheck 2) (checking (.page 9)) = some (.denied, []) ∧
      answered 1 (.abortCheck 1) board = some (.state, []) ∧
      (after (.abortCheck 1) (checking (.page 9))).words = [(10 * 256, 6)] ∧
      (after (.abortCheck 1) (checking (.page 9))).check.current = .page 9 ∧
      (after (.abortCheck 1) (checking (.page 9))).check.omitted = ⟨false, false, true⟩ ∧
      (after (.abortCheck 1) (checking .reference)).check.omitted = ⟨false, true, true⟩ ∧
      (after (.abortCheck 1) (checking (.pair 9 11))).check.omitted = noSteps ∧
      (after (.abortCheck 1) (checking (.page 9))).heldMark 9 = false ∧
      ((after (.abortCheck 1) (checking (.page 9))).eventsAt 1).flags = flagCheck := by decide +kernel

/-! ### Event commands -/

theorem witness_ReadEventsAndSetAttention :
    noticed.takes 2 ∧ answered 2 (.readEvents 2) noticed = some (.ok, [1, 0, 1]) ∧
      answered 2 (.setAttention 2 64) noticed = some (.param, []) ∧ (63 : Byte).toNat = (63 : FlagSet).toNat ∧
      answered 2 (.setAttention 2 63) noticed = some (.ok, [1]) ∧
      ((after (.setAttention 2 63) noticed).eventsAt 2).attention = true ∧
      ((after (.setAttention 2 62) noticed).eventsAt 2).attention = false := by decide +kernel

theorem witness_ClearEventsAndReadCompletionsClearFlags :
    answered 2 (.clearEvents 2 128) noticed = some (.param, []) ∧
      answered 2 (.clearEvents 2 1) noticed = some (.ok, [0]) ∧ answered 2 (.clearEvents 2 0) noticed = some (.ok, [1]) ∧
      answered 2 (.readCompletions 2) noticed = some (.ok, [1, 7, 0]) ∧
      ((after (.readCompletions 2) noticed).eventsAt 2).flags = 0 ∧
      ((after (.readCompletions 2) noticed).eventsAt 2).entries = [] := by decide +kernel

/-! ### Events at the wires -/

/-- Port 1 in a select period, with a change that a test makes. -/
def selected (change : Port → Port) : State :=
  board.modPort 1 fun pt => change { pt with selected := true }

theorem witness_SelectDeselectAndReceiveTimer :
    let assembling := selected fun pt => { pt with receive := .receiving 4 [4, 2], receiveTimer := some 20 }
    (board.port 1).selected = false ∧ assembling.phase = .operating ∧
      ((after (.select 1) (board.answer 1 0x01 .ok [7])).port 1).outgoing = some ⟨⟨0x01, .ok, [7]⟩, 0, true⟩ ∧
      ((after (.deselect 1) assembling).port 1).receive = .waitLength ∧
      ((after (.receiveTimerExpiry 1) assembling).port 1).receive = .discarding ∧
      ((after (.receiveTimerExpiry 1) assembling).port 1).receiveTimer = none ∧
      after (.select 1) assembling = assembling ∧ after (.deselect 1) board = board := by decide +kernel

/-- The last byte of the outgoing response consumes it, unless another response is pending by then. -/
theorem witness_ByteExchangeShiftsOutTheResponse :
    let r : Response := ⟨0x01, .ok, [7]⟩
    let going : Nat → Bool → State := fun sent still => selected fun pt =>
      { pt with response := some r, outgoing := some ⟨r, sent, still⟩, period := .closed }
    (going 0 true).phase = .operating ∧ ((after (.byteExchange 1 0x04) (going 3 true)).port 1).dataOut = 7 ∧
      ((after (.byteExchange 1 0x04) (going 4 true)).port 1).response = none ∧
      ((after (.byteExchange 1 0x04) (going 4 false)).port 1).response = some r ∧
      ((after (.byteExchange 1 0x04) (going 5 false)).port 1).dataOut = 0 ∧
      ((after (.byteExchange 1 0x04) { going 3 true with phase := .resetAsserted }).port 1).dataOut = 0 ∧
      ((after (.byteExchange 1 0x00) (selected id)).port 1).outgoing = none ∧
      ((after (.byteExchange 1 0x09) (selected fun pt => { pt with receive := .discarding })).port 1).receive =
        .discarding := by decide +kernel

theorem witness_ByteExchangeAssemblesAFrame :
    (selected id).phase = .operating ∧ ((selected id).port 1).outgoing = none ∧ ((selected id).port 1).period = .open ∧
      ((after (.byteExchange 1 3) (selected id)).port 1).receive = .receiving 3 [3] ∧
      ((after (.byteExchange 1 255) (selected id)).port 1).receiveTimer = some 20 ∧
      ((after (.byteExchange 1 3) (selected fun pt => { pt with timeout := 0 })).port 1).receiveTimer = none ∧
      answered 1 (.byteExchange 1 1) (selected id) = some (.length, []) ∧
      ((after (.byteExchange 1 2) (selected id)).port 1).receive = .discarding ∧
      ((after (.byteExchange 1 8) (selected fun pt => { pt with receive := .receiving 4 [4] })).port 1).receive =
        .receiving 4 [4, 8] := by decide +kernel

/-- A byte goes in while a byte of a response goes out; a bad length byte replaces the response that shifts out. -/
theorem test_byteExchange_bothWays :
    let r : Response := ⟨0x01, .ok, [7]⟩
    let going : Nat → State := fun sent => selected fun pt =>
      { pt with response := some r, outgoing := some ⟨r, sent, true⟩ }
    ((after (.byteExchange 1 3) (going 3)).port 1).receive = .receiving 3 [3] ∧
      ((after (.byteExchange 1 3) (going 3)).port 1).dataOut = 7 ∧
      ((after (.byteExchange 1 3) (going 4)).port 1).response = none ∧
      answered 1 (.byteExchange 1 2) (going 0) = some (.length, []) ∧
      ((after (.byteExchange 1 2) (going 0)).port 1).outgoing = some ⟨r, 1, false⟩ := by decide +kernel

/-- The last byte of READ_RUN's frame, of a frame with a wrong check byte, of the unknown code 00H, and of a frame that
completes during the port's data run. -/
theorem witness_LastByteCompletesTheFrame :
    let ending : List Byte → State := fun bytes => selected fun pt =>
      { pt with receive := .receiving 3 bytes, receiveTimer := some 20 }
    encodeFrame (.readRun 1) = [0x03, 0x43] ++ [0x3B] ∧ (Instr.readRun 1).wellFormed = true ∧
      (Instr.readRun 1).commandPort = some 1 ∧ (ending [0x03, 0x43]).phase = .operating ∧
      answered 1 (.byteExchange 1 0x3B) (ending [0x03, 0x43]) = some (.ok, [255, 0, 0, 0]) ∧
      answered 1 (.byteExchange 1 0x3A) (ending [0x03, 0x43]) = some (.checksum, []) ∧
      answered 1 (.byteExchange 1 0xAC) (ending [0x03, 0x00]) = some (.unknown, []) ∧
      ((after (.byteExchange 1 0x3B) (ending [0x03, 0x43])).port 1).period = .closed ∧
      ((after (.byteExchange 1 0x3B) (inRun (.read 0 1 []) (ending [0x03, 0x43]))).port 1).kept =
        some [0x03, 0x43, 0x3B] ∧
      ((after (.byteExchange 1 0x3B) ((inRun (.read 0 1 []) (ending [0x03, 0x43])).modPort 1 fun pt =>
        { pt with kept := some [0x03] })).port 1).kept = some [0x03] ∧
      readCommand 1 0x43 [] = .ok (.readRun 1) ∧ readCommand 1 0x00 [] = .error .unknown := by decide +kernel

/-! ### Element steps -/

/-- Port 1 with a running context C3 of an operation, at index n of N, over words of pages 8 and 9. -/
def stepping (op : Operation) (mask : SatSet) (count n : Nat) (part : OpPart) (words : Memory) : State :=
  { board.setCtx 3 (some { context .running 1 ⟨op, 0, mask, count⟩ with continuation := ⟨n, part⟩ }) with
    chain := [3], words := words
    maps := update board.maps 1 (update (update absentMap 0 ⟨8, .readWrite⟩) 1 ⟨9, .readWrite⟩) }

/-- Words 0 to 3 of page 8 hold 5, −9, 9 and 2147483647. -/
def samples : Memory := [(2048, 5), (2049, 0xFFFFFFF7), (2050, 9), (2051, 0x7FFFFFFF)]

/-- X at logical page 0, Z at logical page 1. -/
def x0 : Descriptor := ⟨0, 0, 1⟩
def z1 : Descriptor := ⟨1, 0, 1⟩

theorem witness_ElementStepWritesAndAdvances :
    let s := stepping (.copy x0 z1) noSats 4 1 .plain samples
    s.phase = .operating ∧ Memory.wf s.words ∧ s.chain = [3] ∧ s.offline = false ∧
      s.span 1 ⟨.copy x0 z1, 0, noSats, 4⟩ = [8, 9] ∧ s.carriesFault 8 = false ∧ s.carriesFault 9 = false ∧
      (after (.elementStep none) s).words = samples ++ [(2305, 0xFFFFFFF7)] ∧
      ((after (.elementStep none) s).ctx 3).map (·.continuation.next) = some 2 ∧ board.chain = [] := by decide +kernel

theorem witness_LastElementStepCompletesTheContext :
    let s := stepping (.offset 1 x0 z1) noSats 4 3 .plain samples
    s.phase = .operating ∧ s.chain = [3] ∧ s.offline = false ∧
      (∀ x ∈ [SatKind.high], satIn noSats x = false) ∧ (after (.elementStep none) s).chain = [] ∧
      (after (.elementStep none) s).words = samples ++ [(2307, 0x7FFFFFFF)] ∧
      ((after (.elementStep none) s).ctx 3).map (fun k => (k.state, k.seen, k.continuation.next)) =
        some (.done, ⟨true, false⟩, 4) ∧
      ((after (.elementStep none) s).eventsAt 1).entries = [(3, .done)] := by decide +kernel

/-- A store fault, a failing read and a masked saturation, each with its cause and no write. -/
theorem witness_FaultingElementStepWritesNothing :
    let s := stepping (.offset 1 x0 z1) ⟨true, false⟩ 4 3 .plain samples
    let bad := { s with faults := update s.faults 9 ⟨true, false, false⟩ }
    ((after (.elementStep none) bad).ctx 3).map (·.cause) = some (some .store) ∧
      ((after (.elementStep (some 0)) s).ctx 3).map (fun k => (k.cause, k.continuation.next)) =
        some (some .store, 3) ∧
      (after (.elementStep (some 0)) s).faultsOf 8 = ⟨false, false, true⟩ ∧
      ((after (.elementStep (some 1)) s).ctx 3).map (fun k => (k.cause, k.seen)) = some (some .satHigh, noSats) ∧
      (after (.elementStep none) s).words = samples ∧
      ((after (.elementStep none) s).eventsAt 1).entries = [(3, .faulted)] ∧
      ((after (.elementStep none) s).eventsAt 1).flags = 0x03 ∧
      ((after (.elementStep none) s).eventsAt 2).flags = 0 ∧ s.ctx 3 ≠ none := by decide +kernel

/-- The table of shifts (R100). -/
theorem test_shift_examples :
    shiftRight 7 1 = 3 ∧ shiftRight (-7) 1 = -4 ∧ shiftRight (-1) 31 = -1 ∧ shiftRight (-8) 3 = -1 ∧
      shiftRight (-9) 3 = -2 ∧ shiftRight 268435456 15 = 8192 ∧ shiftRight 5 0 = 5 := by decide +kernel

/-- What the step at an index writes, for a read function given by the words of X at 0 and of Y at 16. -/
def written (op : Operation) (count n : Nat) (part : OpPart) (xs ys : List Int) : List Int :=
  (op.results count n part fun a =>
    BitVec.ofInt 32 (if a.toNat < 16 then xs.getD a.toNat 0 else ys.getD (a.toNat - 16) 0)).writes.map (·.2.toInt)

def y16 : Descriptor := ⟨0, 16, 1⟩

/-- The tables of ADD, SUB and MULQ (R105, R106). -/
theorem test_addSubMulq_examples :
    written (.add x0 y16 z1) 1 0 .plain [2147483647] [1] = [2147483647] ∧
      written (.add x0 y16 z1) 1 0 .plain [-2147483648] [-1] = [-2147483648] ∧
      written (.sub x0 y16 z1) 1 0 .plain [0] [-2147483648] = [2147483647] ∧
      written (.sub x0 y16 z1) 1 0 .plain [1000] [1500] = [-500] ∧
      written (.mulq 15 x0 y16 z1) 1 0 .plain [16384] [-16384] = [-8192] ∧
      written (.mulq 1 x0 y16 z1) 1 0 .plain [-3] [3] = [-5] ∧
      written (.mulq 31 x0 y16 z1) 1 0 .plain [-2147483648] [-2147483648] = [2147483647] ∧
      written (.mulq 31 x0 y16 z1) 1 0 .plain [-2147483648] [2147483647] = [-2147483647] := by decide +kernel

/-- The filters of R112: X[−2] to X[2] at 0 to 4, taps 1, 2, 1, shift 2. -/
theorem test_filter_examples :
    (List.range 3).flatMap (fun n => written (.fir 3 2 ⟨0, 2, 1⟩ y16 z1) 3 n .plain [4, 8, 12, 0, -4] [1, 2, 1]) =
        [8, 8, 2] ∧
      (List.range 3).flatMap (fun n => written (.firz 3 2 ⟨0, 2, 1⟩ y16 z1) 3 n .plain [4, 8, 12, 0, -4] [1, 2, 1]) =
        [3, 6, 2] ∧
      Operation.reads 3 0 (.firz 3 2 ⟨0, 2, 1⟩ y16 z1) = [2, 16, 17, 18] := by decide +kernel

/-- The last step of the DOT of 5.11: two saturations, and Z[0] at the bound. -/
theorem test_dot_example :
    dotResult z1 31 3 2 9223372028264841218 4611686014132420609 =
        ⟨[(256, 0x7FFFFFFF)], [.high, .high], .accumulator 0x7FFFFFFFFFFFFFFF⟩ ∧
      firstMasked ⟨true, false⟩ [.low, .high] = some .high := by decide +kernel

/-- The threshold compare of 5.10, the peak search of 5.12 and the bit reversal of R120. -/
theorem test_compare_peak_reverse_examples :
    written (.cmps .ge true 1000 x0 z1) 8 6 (.hits 3) [200, -1500, 999, 1000, -2147483648, 30, 1200, -7] [] = [6] ∧
      written (.cmps .ge true 1000 x0 z1) 8 7 (.hits 4) [200, -1500, 999, 1000, -2147483648, 30, 1200, -7] [] = [4] ∧
      written (.peak x0 z1) 4 3 (.peak (some (BitVec.ofInt 32 (-20), 2))) [5, -9, -20, 3] [] = [-20, 2] ∧
      OpPart.peakAfter (.peak (some (BitVec.ofInt 32 (-9), 1))) 9 2 = (BitVec.ofInt 32 (-9), 1) ∧
      (List.range 8).map (bitReverse 3) = [0, 4, 2, 6, 1, 5, 3, 7] ∧
      written (.reverse x0) 8 1 .plain [10, 11, 12, 13, 14, 15, 16, 17] [] = [14, 11] ∧
      written (.reverse x0) 8 4 .plain [10, 11, 12, 13, 14, 15, 16, 17] [] = [] := by decide +kernel

theorem witness_ShiftsSaturationAndBitReversal :
    (2147483647 : Int) < 2147483648 ∧ (9223372036854775807 : Int) < 9223372036854775808 ∧ 9 < 10 ∧ 1023 < 2 ^ 10 ∧
      1024 ∈ reverseCounts := by decide +kernel

theorem witness_ArrayOperationsWriteTheirResults :
    bitReverse (indexBits 8) 1 = 4 ∧ bitReverse (indexBits 8) 7 = 7 ∧
      (fun n => 7 + 1 = n) 8 ∧ OpPart.hits 0 = .hits 0 ∧ OpPart.peak none = .peak none := by decide +kernel

/-- The six relations at a smaller, an equal and a larger value (R115). -/
theorem test_relations :
    [Relation.lt, .le, .eq, .ne, .gt, .ge].map (fun r => [-1, 0, 1].map fun a : Int => r.holds a 0) =
      [[true, false, false], [true, true, false], [false, true, false], [true, false, true], [false, false, true],
        [false, true, true]] := by decide +kernel

/-! ### Trigger events (6.7, 6.8) -/

/-- T2 of 6.7 over a high pin. -/
def bouncing (change : Line → Line) : State :=
  { withLine change working with pins := update working.pins 2 .high }

theorem witness_PinChangesQualifyALine :
    (bouncing id).phase = .operating ∧ (bouncing id).pins[(2 : LineId)] ≠ .low ∧
      ((after (.pinLevelChange 2 .low) (bouncing id)).line 2).state = .debouncing ∧
      ((after (.pinLevelChange 2 .low) (bouncing fun n => { n with config := { n.config with debounce := 0 } })).line
        2).validationTimer = some 5 ∧
      ((after (.pinLevelChange 2 .low) (bouncing fun n =>
        { n with config := { n.config with debounce := 0, validation := 0 } })).line 2).lastRefusal = some .denied ∧
      ((after (.pinLevelChange 2 .high) (withLine (fun n => { n with state := .validating }) working)).line 2).state =
        .listening ∧
      ((after (.pinLevelChange 2 .low) (bouncing fun n => { n with state := .pending })).line 2).state = .pending ∧
      ((after (.pinLevelChange 2 .low) (bouncing fun n =>
        { n with config := { n.config with source := .timer } })).line 2).state = .listening := by decide +kernel

theorem witness_QualificationTimersMoveTheirLine :
    let debouncing := withLine (fun n => { n with state := .debouncing, debounceTimer := some 2 }) working
    let validating := withLine (fun n => { n with state := .validating, validationTimer := some 5 }) working
    debouncing.phase = .operating ∧ ((after (.debounceExpiry 2) debouncing).line 2).validationTimer = some 5 ∧
      ((after (.debounceExpiry 2) { debouncing with pins := update working.pins 2 .high }).line 2).state = .listening ∧
      ((after (.validationExpiry 2) validating).line 2).state = .refused ∧
      ((after (.validationExpiry 2) validating).eventsAt 1).flags = flagTrigger ∧
      ((after (.debounceExpiry 2) validating).line 2).state = .validating ∧
      ((after (.validationExpiry 2) debouncing).line 2).state = .debouncing := by decide +kernel

theorem witness_IntervalTimerExpiresAndCounts :
    let timed : IntervalTimer → State := fun t =>
      { withLine (fun n => { n with config := { n.config with source := .timer, gate := 0 } }) working with timer := t }
    (timed ⟨true, 10, 2⟩).phase = .operating ∧ (after .remainingCountFalls (timed ⟨true, 10, 2⟩)).timer = ⟨true, 10, 1⟩ ∧
      (after .remainingCountFalls (timed ⟨true, 10, 1⟩)).timer = ⟨true, 10, 10⟩ ∧
      ((after .remainingCountFalls (timed ⟨true, 10, 1⟩)).line 2).lastStarted = some 4 ∧
      (after .intervalTimerExpiry (timed ⟨true, 10, 7⟩)).chain = [4, 3] ∧
      (after .remainingCountFalls (timed ⟨false, 10, 7⟩)).timer = ⟨false, 10, 7⟩ ∧
      (after .intervalTimerExpiry { timed ⟨true, 10, 7⟩ with lines := working.lines }).timer.remaining = 10 := by decide +kernel

/-- The pass of 6.8 over T6, T1, T3, T7 and T0. -/
def fivePending : State :=
  let pending : Fin 8 → GateId → Line := fun pr g =>
    { Line.initial with config := ⟨true, .timer, .rising, 2, 5, pr, g, 2⟩, state := .pending }
  { ((((chainOfFour.setCtx 1 none).setCtx 9 none).setCtx 12 (some (context .idle 1 (copyBlock 0 4)))).setCtx 4
      (some (context .idle 1 (copyBlock 4 4)))) with
    chain := [20, 14, 11], ready := [17]
    gates := update (update (update (update State.reset.gates 6 (some ⟨.nest, 4, 0, true⟩)) 7
      (some ⟨.queue, 4, 0, true⟩)) 8 (some ⟨.queue, 17, 0, true⟩)) 9 (some ⟨.nest, 12, 0, true⟩)
    lines := update (update (update (update (update State.reset.lines 0 (pending 2 8)) 1 (pending 5 6)) 3
      (pending 5 7)) 6 (pending 7 9)) 7 (pending 5 10) }

theorem witness_ServicePassServesLinesInOrder :
    fivePending.pendingLines = [6, 1, 3, 7, 0] ∧ fivePending.servicePass.chain = [12, 20, 14, 11] ∧
      fivePending.servicePass.ready = [4, 17] ∧
      (List.finRange 8).map (fun l => (fivePending.servicePass.line l).lastRefusal) =
        [some .busy, some .nestDepth, none, none, none, none, none, some .noGate] ∧
      (fivePending.servicePass.line 7).state = .refused ∧ (fivePending.servicePass.eventsAt 2).flags = flagTrigger ∧
      (fivePending.servicePass.line 6).lastStarted = some 12 := by decide +kernel

/-- The check sequence of a line over the working board, each check failing first, and one that passes (R47, R54). -/
theorem witness_ALineIsCheckedInOrder :
    let line : Option Gate → State → Option Status := fun g s =>
      match s.checkInvocation g (.line 2) with
      | .ok _ => none
      | .error st => some st
    let gate : ContextId → Option Gate := fun c => some ⟨.nest, c, 0, true⟩
    let held := update board.heldMarks 9 true
    line none working = some .noGate ∧ line (some ⟨.nest, 4, 3, false⟩) working = some .denied ∧
      line (gate 31) working = some .noContext ∧ line (gate 9) working = some .ctxFaulted ∧
      line (gate 8) working = some .busy ∧ line (gate 4) chainOfFour = some .nestDepth ∧
      line (gate 4) { working with offline := true } = some .offline ∧
      line (gate 4) { working with maps := State.reset.maps } = some .mapAccess ∧
      line (gate 4) { working with faults := update board.faults 9 ⟨true, false, false⟩ } = some .pageFault ∧
      line (gate 4) { working with heldMarks := held } = some .pageHeld ∧ line (gate 4) working = none := by
  decide +kernel

/-! ### Test completions (7.9) -/

/-- The check of 7.9 over pages 20 to 24, page 22 carrying WORD, at a test of it. -/
def fivePages (current : CurrentTest) : State :=
  { board with
    faults := update board.faults 22 ⟨false, false, true⟩
    heldMarks := Vector.ofFn fun g : PhysicalPage => 20 ≤ g && g ≤ 24
    maps := update board.maps 2 (update absentMap 3 ⟨20, .read⟩)
    check := { acceptedRecord 0 (BitVec.ofNat 64 (31 * 2 ^ 20)) ⟨true, true⟩ false with current := current } }

/-- The results of pages 20 to 24. -/
def fiveResults (s : State) : List (Option PageResult) := (s.check.results.toList.drop 20).take 5

theorem witness_ReferenceTestSettlesTheNextStep :
    (fivePages .reference).check.state = .running ∧ (fivePages .reference).check.current = .reference ∧
      (after (.referenceTestComplete .pass) (fivePages .reference)).check.current = .page 20 ∧
      fiveResults (after (.referenceTestComplete .pass) (fivePages .reference)) =
        [some .notReached, some .notReached, some .skipped, some .notReached, some .notReached] ∧
      (after (.referenceTestComplete .fail) (fivePages .reference)).offline = true ∧
      (after (.referenceTestComplete .fail) (fivePages .reference)).check.omitted = ⟨false, true, true⟩ ∧
      ((after (.referenceTestComplete .fail) (fivePages .reference)).eventsAt 0).flags = flagCheck ||| flagOffline ∧
      after (.referenceTestComplete .fail) (fivePages (.page 20)) = fivePages (.page 20) := by decide +kernel

/-- The check of 7.9 after page 24 passed: three pages eligible, of which 23 is not one. -/
def afterPattern : State :=
  { fivePages (.page 24) with
    faults := update (fivePages .none).faults 23 ⟨true, false, false⟩
    check := { (fivePages (.page 24)).check with
      reference := some .pass
      results := Vector.ofFn fun g : PhysicalPage =>
        if g = 22 then some .skipped else if g = 23 then some .failPattern else if g = 24 then some .notReached
        else if g = 20 ∨ g = 21 then some .pass else none } }

theorem witness_PageAndPairTestsJudgeAndZeroFill :
    (after (.pageTestComplete .fail) (fivePages (.page 21))).faultsOf 21 = ⟨true, false, false⟩ ∧
      (after (.pageTestComplete .pass) afterPattern).check.current = .pair 20 21 ∧
      (after (.pairTestComplete .pass) (after (.pageTestComplete .pass) afterPattern)).check.current = .pair 20 24 ∧
      let ending := (after (.pageTestComplete .pass) afterPattern).modCheck fun r => { r with current := .pair 20 24 }
      (after (.pairTestComplete .fail) ending).check.state = .ended ∧
        fiveResults (after (.pairTestComplete .fail) ending) =
          [some .failDecode, some .pass, some .skipped, some .failPattern, some .failDecode] ∧
        ((after (.pairTestComplete .fail) ending).eventsAt 2).flags = flagPage ∧
        ((after (.pairTestComplete .fail) ending).eventsAt 0).flags = flagCheck ∧
        (after (.pairTestComplete .fail) ending).heldMark 22 = false := by decide +kernel

/-- DECODE begins with the first pair of eligible pages, and ends the check where fewer than two are eligible (R151). -/
theorem witness_DecodeBeginsWithTheFirstPair :
    (after (.pageTestComplete .pass) afterPattern).check.results[(22 : PhysicalPage)] = some .skipped ∧
      afterPattern.beginDecode.check.current = .pair 20 21 ∧
      ({ afterPattern with faults := Vector.replicate 64 ⟨true, false, false⟩ } : State).beginDecode.check.state = .ended ∧
      (after (.referenceTestComplete .pass) { fivePages .reference with
        check := { (fivePages .reference).check with steps := ⟨true, false, true⟩ } }).check.current = .pair 20 21 := by
  decide +kernel

/-! ### Power and reset -/

theorem witness_NothingIsTakenWhileNotOperating :
    let reset := after .resetAssert working
    reset.phase ≠ .operating ∧ (Instr.readRun 1).commandPort.isSome = true ∧ answered 1 (.readRun 1) reset = none ∧
      (after (.pinLevelChange 7 .high) reset).pins[(7 : LineId)] = .high ∧ (after (.elementStep none) reset).chain = [3] ∧
      (after .powerOn working).phase = .startingUp := by decide +kernel

/-- The straps and the defaults come at the end of start-up and at the release of RESET. -/
theorem witness_PowerAndResetLoseAndRestore :
    let straps : Vector Level 4 := Vector.ofFn fun p => 3 - p
    (after (.resetRelease straps) (after .resetAssert working)).level 0 = 3 ∧
      (after (.resetRelease straps) (after .resetAssert working)).chain = [] ∧
      (after (.startupComplete straps) (after .powerOn working)).phase = .operating ∧
      (after (.startupComplete straps) (after .resetAssert working)).phase = .resetAsserted ∧
      (after (.resetRelease straps) working).chain = [3] := by decide +kernel

/-- Start-up and RESET together: the part operates from the later of the two ends, whichever began first (R177). -/
theorem test_startup_and_reset_together :
    let straps : Vector Level 4 := Vector.ofFn fun p => 3 - p
    let resetFirst := after .powerOn (after .resetAssert working)
    let startupFirst := after .resetAssert (after .powerOn working)
    resetFirst.phase = .startingUpInReset ∧ startupFirst.phase = .startingUpInReset ∧
      (after (.startupComplete straps) resetFirst).phase = .resetAsserted ∧
      (after (.resetRelease straps) startupFirst).phase = .startingUp ∧
      (after (.resetRelease straps) (after (.startupComplete straps) resetFirst)).phase = .operating ∧
      (after (.startupComplete straps) (after (.resetRelease straps) startupFirst)).phase = .operating ∧
      (after (.startupComplete straps) resetFirst).level 0 = 3 ∧ (after (.resetRelease straps) startupFirst).level 0 = 3 ∧
      answered 1 (.readRun 1) startupFirst = none := by decide +kernel

/-! ### Invariants: states that have them, with a command waiting -/

/-- The working board with an INVOKE of C4 at the front of its queue. -/
def waiting : State := working.withPending [.invoke 1 0]

theorem witness_StepsKeepTheStoreCanonical :
    StoreCanonical (storeBoard.withPending [.elementStep none]) ∧
      ∃ t, step (storeBoard.withPending [.elementStep none]) = .next t :=
  ⟨by unfold StoreCanonical; decide +kernel, _, rfl⟩

theorem witness_StepsKeepTheRunStructureWhole : RunStructure waiting ∧ ∃ t, step waiting = .next t :=
  ⟨by unfold RunStructure CollectionsMatch; decide +kernel, _, rfl⟩

/-- The six contexts of the working board. -/
theorem working_contexts (c : ContextId) (k : Context) (h : waiting.ctx c = some k) :
    k ∈ [context .running 1 (copyBlock 2 4), context .ready 1 (copyBlock 5 4), context .held 1 (copyBlock 7 4),
      context .idle 1 (copyBlock 2 4), context .done 1 (copyBlock 2 4), context .faulted 1 (copyBlock 2 4)] := by
  have every : ∀ c : ContextId, (waiting.ctx c).all fun k =>
      k ∈ [context .running 1 (copyBlock 2 4), context .ready 1 (copyBlock 5 4), context .held 1 (copyBlock 7 4),
        context .idle 1 (copyBlock 2 4), context .done 1 (copyBlock 2 4), context .faulted 1 (copyBlock 2 4)] := by
    decide +kernel
  have here := every c
  rw [h] at here
  exact of_decide_eq_true here

theorem witness_StepsKeepRecordsFitting :
    RunStructure waiting ∧ RecordsFit waiting ∧ ∃ t, step waiting = .next t := by
  refine ⟨witness_StepsKeepTheRunStructureWhole.1, fun c k h => ?_, _, rfl⟩
  have hk := working_contexts c k h
  simp only [List.mem_cons, List.not_mem_nil, or_false] at hk
  rcases hk with rfl | rfl | rfl | rfl | rfl | rfl <;>
    exact ⟨by decide, by decide, by decide +kernel, by decide, by decide, by decide, rfl, by decide, by decide, by decide⟩

theorem witness_StepsKeepTestedPagesOutOfSpans :
    RunStructure waiting ∧ CheckHolds waiting ∧ SpansProtected waiting ∧ ∃ t, step waiting = .next t := by
  refine ⟨witness_StepsKeepTheRunStructureWhole.1,
    ⟨by decide +kernel, by decide +kernel, by decide +kernel, (fun _ h => nomatch h), (fun _ _ h => nomatch h)⟩,
    fun c k h _ => ?_, _, rfl⟩
  have hk := working_contexts c k h
  simp only [List.mem_cons, List.not_mem_nil, or_false] at hk
  rcases hk with rfl | rfl | rfl | rfl | rfl | rfl <;> decide +kernel

theorem witness_StepsKeepLinesAndPortsFitting :
    LinesFit waiting ∧ PortsFit waiting ∧ ∃ t, step waiting = .next t := by
  have lines : ∀ l : LineId, waiting.line l = Line.initial := by decide +kernel
  have ports : ∀ p : PortId, waiting.port p = Port.initial p false 0 := by decide +kernel
  refine ⟨fun l => ?_, fun p => ?_, _, rfl⟩
  · rw [lines l]; unfold LineFits; decide +kernel
  · rw [ports p]; exact ⟨(fun _ _ h => nomatch h), (fun h => nomatch h), (fun h => nomatch h), (fun h => nomatch h),
      (fun h => nomatch h), (fun _ h => nomatch h)⟩

theorem witness_StepsKeepAttentionFollowingFlags :
    AttentionFollows waiting ∧ NoticesNamed waiting ∧ ∃ t, step waiting = .next t :=
  ⟨by unfold AttentionFollows; decide +kernel, by unfold NoticesNamed; decide +kernel, _, rfl⟩

theorem witness_MapIsLockedWhileContextsAreActive :
    waiting.mapLocked 1 = true ∧ (after (.invoke 1 0) working).mapLocked 1 = true ∧ ∃ t, step waiting = .next t :=
  ⟨by decide +kernel, by decide +kernel, _, rfl⟩

end Sys2Proof.Tests
end

section
/-! PROOFS. What a step can do to the contexts, their collections, the window maps and the store check: most commands
and events leave all of them, and the rest are listed once, in `StepEffect`. -/

namespace Sys2Proof.Machine

/-! ### States that share contexts, collections, maps and check -/

/-- `t` has the contexts, the chain, the ready list, the maps, the HELD marks, the check record and the OFFLINE flag
of `s`. -/
structure SameRun (s t : State) : Prop where
  contexts : t.contexts = s.contexts
  chain : t.chain = s.chain
  ready : t.ready = s.ready
  maps : t.maps = s.maps
  heldMarks : t.heldMarks = s.heldMarks
  check : t.check = s.check
  offline : t.offline = s.offline

theorem SameRun.refl (s : State) : SameRun s s := ⟨rfl, rfl, rfl, rfl, rfl, rfl, rfl⟩

theorem SameRun.trans {s t u : State} (h : SameRun s t) (h' : SameRun t u) : SameRun s u :=
  ⟨h'.contexts.trans h.contexts, h'.chain.trans h.chain, h'.ready.trans h.ready, h'.maps.trans h.maps,
    h'.heldMarks.trans h.heldMarks, h'.check.trans h.check, h'.offline.trans h.offline⟩

theorem SameRun.ctx {s t : State} (h : SameRun s t) (c : ContextId) : t.ctx c = s.ctx c := by
  simp [State.ctx, h.contexts]

theorem SameRun.entry {s t : State} (h : SameRun s t) (p : PortId) (l : LogicalPage) : t.entry p l = s.entry p l := by
  simp [State.entry, h.maps]

theorem SameRun.heldMark {s t : State} (h : SameRun s t) (g : PhysicalPage) : t.heldMark g = s.heldMark g := by
  simp [State.heldMark, h.heldMarks]

theorem SameRun.modPort (s : State) (p : PortId) (f : Port → Port) : SameRun s (s.modPort p f) :=
  ⟨rfl, rfl, rfl, rfl, rfl, rfl, rfl⟩

theorem SameRun.modLine (s : State) (l : LineId) (f : Line → Line) : SameRun s (s.modLine l f) :=
  ⟨rfl, rfl, rfl, rfl, rfl, rfl, rfl⟩

theorem SameRun.modEvents (s : State) (p : PortId) (f : PortEvents → PortEvents) : SameRun s (s.modEvents p f) :=
  ⟨rfl, rfl, rfl, rfl, rfl, rfl, rfl⟩

theorem SameRun.raiseAt (s : State) (which : PortId → Bool) (f : FlagSet) : SameRun s (s.raiseAt which f) :=
  ⟨rfl, rfl, rfl, rfl, rfl, rfl, rfl⟩

theorem SameRun.postNotice (s : State) (c : ContextId) (o : Ending) : SameRun s (s.postNotice c o) :=
  ⟨rfl, rfl, rfl, rfl, rfl, rfl, rfl⟩

theorem SameRun.withPending (s : State) (queue : List Instr) : SameRun s (s.withPending queue) :=
  ⟨rfl, rfl, rfl, rfl, rfl, rfl, rfl⟩

theorem SameRun.answer (s : State) (p : PortId) (code : Byte) (st : Status) (rs : List Byte) :
    SameRun s (s.answer p code st rs) := ⟨rfl, rfl, rfl, rfl, rfl, rfl, rfl⟩

theorem SameRun.refuse (s : State) (p : PortId) (code : Byte) (st : Status) : SameRun s (s.refuse p code st) :=
  SameRun.answer ..

theorem SameRun.wordCheckFailure (s : State) (g : PhysicalPage) : SameRun s (s.wordCheckFailure g) := by
  constructor <;> simp

theorem SameRun.writeResults (s : State) (p : PortId) (ws : List (LogicalAddress × Word)) :
    SameRun s (s.writeResults p ws) := ⟨rfl, rfl, rfl, rfl, rfl, rfl, rfl⟩

theorem SameRun.zeroUnderTest (s : State) : SameRun s s.zeroUnderTest := by
  unfold State.zeroUnderTest
  split <;> exact ⟨rfl, rfl, rfl, rfl, rfl, rfl, rfl⟩

theorem SameRun.stop (s : State) (ph : Phase) : SameRun s (s.stop ph) := ⟨rfl, rfl, rfl, rfl, rfl, rfl, rfl⟩

/-! ### The commands that leave them as they are -/

/-- Whether a command can change contexts, collections, maps, HELD marks, the check record or OFFLINE. -/
def changesRun : Instr → Bool
  | .portReset .. | .deviceRestart .. | .writeMap .. | .clearFaults .. | .defineContext .. | .setParams ..
  | .clearContext .. | .freeContext .. | .writeGate .. | .invoke .. | .hold .. | .resume .. | .abort ..
  | .startCheck .. | .abortCheck .. => true
  | _ => false

/-- A command of no other kind only answers, and at most starts a data run, rewrites a line, the timer, or its port's
timeout and events. -/
theorem runCommand_sameRun (i : Instr) (s : State) (h : changesRun i = false) : SameRun s (runCommand i s) := by
  cases i with
  | portReset | deviceRestart | writeMap | clearFaults | defineContext | setParams | clearContext | freeContext
  | writeGate | invoke | hold | resume | abort | startCheck | abortCheck => cases h
  | echo p data =>
    show SameRun s (takeEcho p data s)
    unfold takeEcho
    split
    · exact .refuse ..
    · exact .answer ..
  | setPort p timeout => exact (SameRun.modPort ..).trans (.answer ..)
  | readMap p target =>
    show SameRun s (takeReadMap p target s)
    unfold takeReadMap
    split
    · exact .refuse ..
    · exact .answer ..
  | translate p page =>
    show SameRun s (takeTranslate p page s)
    unfold takeTranslate
    split
    · exact .refuse ..
    · exact .answer ..
  | readWords p page offset count =>
    show SameRun s (takeReadWords p page offset count s)
    unfold takeReadWords
    split
    · exact .refuse ..
    · split
      · exact .refuse ..
      · exact .modPort ..
  | writeWords p page offset count words =>
    show SameRun s (takeWriteWords p page offset count words s)
    unfold takeWriteWords
    split
    · exact .refuse ..
    · split
      · exact .refuse ..
      · exact .modPort ..
  | readContext p slot =>
    show SameRun s (takeReadContext p slot s)
    unfold takeReadContext
    split
    · exact .refuse ..
    · exact .answer ..
  | readGate p first count =>
    show SameRun s (takeReadGate p first count s)
    unfold takeReadGate
    split
    · exact .refuse ..
    · exact .answer ..
  | configLine p line fields =>
    show SameRun s (takeConfigLine p line fields s)
    unfold takeConfigLine
    split
    · exact .refuse ..
    · exact (SameRun.modLine ..).trans (.answer ..)
  | clearLine p line =>
    show SameRun s (takeClearLine p line s)
    unfold takeClearLine
    split
    · exact .refuse ..
    · exact (SameRun.modLine ..).trans (.answer ..)
  | setTimer p reload run =>
    show SameRun s (takeSetTimer p reload run s)
    unfold takeSetTimer
    split
    · exact .refuse ..
    · exact ⟨rfl, rfl, rfl, rfl, rfl, rfl, rfl⟩
  | clearEvents p flags =>
    show SameRun s (takeClearEvents p flags s)
    unfold takeClearEvents
    split
    · exact .refuse ..
    · exact (SameRun.modEvents ..).trans (.answer ..)
  | setAttention p mask =>
    show SameRun s (takeSetAttention p mask s)
    unfold takeSetAttention
    split
    · exact .refuse ..
    · exact (SameRun.modEvents ..).trans (.answer ..)
  | readCompletions p => exact (SameRun.modEvents ..).trans (.answer ..)
  | readPageFaults | readRun | readLines | readCheck | readEvents => exact .answer ..
  | select | deselect | byteExchange | receiveTimerExpiry | dataRunWordAccess | elementStep | pinLevelChange
  | debounceExpiry | validationExpiry | intervalTimerExpiry | referenceTestComplete | pageTestComplete
  | pairTestComplete | powerOn | startupComplete | resetAssert | resetRelease | remainingCountFalls => exact .refl s

/-! ### Commands and their frames -/

/-- The row of a command is the taking of that command at its port (R166; assumption log 1). -/
theorem exec_command {i : Instr} {p : PortId} (h : i.commandPort = some p) (s : State) :
    exec i s = takenAt p i s (runCommand i) := by
  cases i <;> cases h <;> rfl

/-! ### What a step can do -/

/-- What can become of a state at one step: nothing to its contexts, collections, maps and check (`quiet`), or one of
the operations that change them, made on a state with the same ones. -/
inductive StepEffect (s : State) : State → Prop where
  | quiet {t : State} (h : SameRun s t) : StepEffect s t
  | command {u : State} (i : Instr) (h : SameRun s u) : StepEffect s (runCommand i u)
  | service {u : State} (h : SameRun s u) : StepEffect s u.servicePass
  | element {u : State} (failingRead : Option Nat) (h : SameRun s u) : StepEffect s (u.elementStep failingRead)
  | reference {u : State} (o : TestOutcome) (h : SameRun s u) : StepEffect s (u.completeReference o)
  | page {u : State} (o : TestOutcome) (h : SameRun s u) : StepEffect s (u.completePage o)
  | pair {u : State} (o : TestOutcome) (h : SameRun s u) : StepEffect s (u.completePair o)
  | start {u : State} (straps : Vector Level 4) (ph : Phase) : StepEffect s (u.start straps ph)

theorem StepEffect.of_sameRun {s u t : State} (h : SameRun s u) (ht : StepEffect u t) : StepEffect s t := by
  cases ht with
  | quiet h' => exact .quiet (h.trans h')
  | command i h' => exact .command i (h.trans h')
  | service h' => exact .service (h.trans h')
  | element f h' => exact .element f (h.trans h')
  | reference o h' => exact .reference o (h.trans h')
  | page o h' => exact .page o (h.trans h')
  | pair o h' => exact .pair o (h.trans h')
  | start straps ph => exact .start straps ph

theorem takeFrame_effect (p : PortId) (frame : List Byte) (s : State) : StepEffect s (takeFrame p frame s) := by
  unfold takeFrame
  split
  · exact .command _ (.refl s)
  · exact .quiet (.refuse ..)

theorem frameCompleted_effect (p : PortId) (frame : List Byte) (s : State) :
    StepEffect s (frameCompleted p frame s) := by
  unfold frameCompleted
  split
  · exact takeFrame_effect ..
  · exact .quiet (.modPort ..)

theorem endRun_effect (s : State) (p : PortId) (code : Byte) (st : Status) (rs : List Byte) :
    StepEffect s (s.endRun p code st rs) := by
  have ended := (SameRun.modPort s p fun pt => { pt with run := none }).trans (.answer _ p code st rs)
  unfold State.endRun State.takeKept
  split
  · exact .quiet ended
  · exact .of_sameRun (ended.trans (.modPort ..)) (takeFrame_effect ..)

theorem accessRead_effect (s : State) (p : PortId) (fails : Bool) (a : LogicalAddress) (left : Nat) (got : List Word) :
    StepEffect s (s.accessRead p fails a left got) := by
  unfold State.accessRead
  split
  · exact endRun_effect ..
  · dsimp only
    split_ifs
    · exact .of_sameRun (.wordCheckFailure ..) (endRun_effect ..)
    · exact endRun_effect ..
    · exact .quiet (.modPort ..)

theorem accessWrite_effect (s : State) (p : PortId) (a : LogicalAddress) (rest : List Word) (written : Nat) :
    StepEffect s (s.accessWrite p a rest written) := by
  have stored (m : Memory) : SameRun s { s with words := m } := ⟨rfl, rfl, rfl, rfl, rfl, rfl, rfl⟩
  unfold State.accessWrite
  split
  · exact endRun_effect ..
  · split
    · exact endRun_effect ..
    · dsimp only
      split_ifs
      · exact .of_sameRun (stored _) (endRun_effect ..)
      · exact .quiet ((stored _).trans (.modPort ..))

theorem accessWord_effect (s : State) (p : PortId) (fails : Bool) : StepEffect s (s.accessWord p fails) := by
  unfold State.accessWord
  split
  · exact .quiet (.refl s)
  · exact accessRead_effect ..
  · exact accessWrite_effect ..

theorem takeLength_sameRun (s : State) (p : PortId) (b : Byte) : SameRun s (s.takeLength p b) := by
  unfold State.takeLength
  split_ifs
  · exact .refl s
  · exact (SameRun.modPort ..).trans (.refuse ..)
  · exact .modPort ..

theorem takeIn_effect (s : State) (p : PortId) (b : Byte) : StepEffect s (s.takeIn p b) := by
  unfold State.takeIn
  split
  · exact .quiet (takeLength_sameRun ..)
  · exact .quiet (.refl s)
  · unfold State.addByte
    split
    · exact .of_sameRun (.modPort ..) (frameCompleted_effect ..)
    · exact .quiet (.modPort ..)
  · exact .quiet (.refl s)

theorem enterPending_effect (s : State) (l : LineId) : StepEffect s (s.enterPending l) := .service (.modLine ..)

theorem qualifyingEdge_effect (s : State) (l : LineId) : StepEffect s (s.qualifyingEdge l) := by
  unfold State.qualifyingEdge
  split_ifs
  · exact .quiet (.modLine ..)
  · exact .quiet (.modLine ..)
  · exact enterPending_effect ..

theorem pinChanged_effect (s : State) (l : LineId) (level : PinLevel) : StepEffect s (s.pinChanged l level) := by
  unfold State.pinChanged
  split
  · split_ifs
    · exact qualifyingEdge_effect ..
    · exact .quiet (.refl s)
  · split_ifs
    · exact .quiet (.refl s)
    · exact .quiet (.modLine ..)
  all_goals exact .quiet (.refl s)

theorem debounceExpired_effect (s : State) (l : LineId) : StepEffect s (s.debounceExpired l) := by
  unfold State.debounceExpired
  split
  · split_ifs
    · exact .quiet (.modLine ..)
    · exact .quiet (.modLine ..)
    · exact enterPending_effect ..
  all_goals exact .quiet (.refl s)

theorem validationExpired_effect (s : State) (l : LineId) : StepEffect s (s.validationExpired l) := by
  unfold State.validationExpired
  split
  · exact enterPending_effect ..
  all_goals exact .quiet (.refl s)

theorem serviceIf_effect {s u : State} (h : SameRun s u) (opportunity : Bool) :
    StepEffect s (u.serviceIf opportunity) := by
  unfold State.serviceIf
  split
  · exact .service h
  · exact .quiet h

theorem intervalExpired_effect (s : State) : StepEffect s s.intervalExpired := by
  unfold State.intervalExpired
  refine serviceIf_effect ?_ _
  exact ⟨rfl, rfl, rfl, rfl, rfl, rfl, rfl⟩

theorem countFalls_effect (s : State) : StepEffect s s.countFalls := by
  unfold State.countFalls
  split_ifs
  · exact .quiet (.refl s)
  · exact intervalExpired_effect s
  · exact .quiet ⟨rfl, rfl, rfl, rfl, rfl, rfl, rfl⟩

/-- An event has its effect, or none while the part does not operate. -/
theorem whenOperating_effect {s t : State} (effect : State → State) (he : StepEffect s (effect s))
    (h : whenOperating s effect = .next t) : StepEffect s t := by
  rw [whenOperating_next] at h
  cases h
  split
  · exact he
  · exact .quiet (.refl s)

theorem byteExchange_effect {s t : State} {p : PortId} {b : Byte} (h : execByteExchange p b s = .next t) :
    StepEffect s t := by
  unfold execByteExchange at h
  split at h
  · split at h <;> cases h
    · exact .of_sameRun (.modPort ..) (takeIn_effect ..)
    all_goals exact .quiet (.modPort ..)
  · cases h
    exact .quiet (.refl s)

theorem pinLevelChange_effect {s t : State} {l : LineId} {level : PinLevel}
    (h : execPinLevelChange l level s = .next t) : StepEffect s t := by
  have sampled : SameRun s (s.setPin l level) := ⟨rfl, rfl, rfl, rfl, rfl, rfl, rfl⟩
  unfold execPinLevelChange at h
  split at h
  · cases h
    exact .quiet (.refl s)
  · split at h <;> cases h
    · exact .of_sameRun sampled (pinChanged_effect ..)
    all_goals exact .quiet sampled

theorem startupComplete_effect {s t : State} {straps : Vector Level 4}
    (h : execStartupComplete straps s = .next t) : StepEffect s t := by
  unfold execStartupComplete at h
  split at h <;> cases h
  · exact .start ..
  · exact .start ..
  · exact .quiet (.refl s)
  · exact .quiet (.refl s)

theorem resetRelease_effect {s t : State} {straps : Vector Level 4}
    (h : execResetRelease straps s = .next t) : StepEffect s t := by
  unfold execResetRelease at h
  split at h <;> cases h
  · exact .start ..
  · exact .start ..
  · exact .quiet (.refl s)
  · exact .quiet (.refl s)

/-- A command's row is quiet (not operating, or kept during a data run), or the command is taken. -/
theorem command_effect {i : Instr} {p : PortId} (hp : i.commandPort = some p) {s t : State}
    (h : exec i s = .next t) : StepEffect s t := by
  rw [exec_command hp] at h
  rcases takenAt_next p i s (runCommand i) with h' | h' | h' <;> rw [h'] at h <;> cases h
  · exact .quiet (.refl s)
  · exact .command i (.refl s)
  · exact .quiet (.modPort ..)

theorem exec_effect {i : Instr} {s t : State} (h : exec i s = .next t) : StepEffect s t := by
  cases hp : i.commandPort with
  | some p => exact command_effect hp h
  | none =>
    cases i with
    | select p => cases h; exact .quiet (.modPort ..)
    | deselect p => cases h; exact .quiet (.modPort ..)
    | byteExchange p b => exact byteExchange_effect h
    | receiveTimerExpiry p => exact whenOperating_effect (fun s => s.modPort p Port.onTimeout) (.quiet (.modPort ..)) h
    | dataRunWordAccess p fails => exact whenOperating_effect (fun s => s.accessWord p fails) (accessWord_effect ..) h
    | elementStep f => exact whenOperating_effect (fun s => s.elementStep f) (.element f (.refl s)) h
    | pinLevelChange l level => exact pinLevelChange_effect h
    | debounceExpiry l => exact whenOperating_effect (fun s => s.debounceExpired l) (debounceExpired_effect ..) h
    | validationExpiry l => exact whenOperating_effect (fun s => s.validationExpired l) (validationExpired_effect ..) h
    | intervalTimerExpiry =>
      refine whenOperating_effect (fun s => if s.timer.running then s.intervalExpired else s) ?_ h
      split
      · exact intervalExpired_effect s
      · exact .quiet (.refl s)
    | referenceTestComplete o => exact whenOperating_effect (fun s => s.completeReference o) (.reference o (.refl s)) h
    | pageTestComplete o => exact whenOperating_effect (fun s => s.completePage o) (.page o (.refl s)) h
    | pairTestComplete o => exact whenOperating_effect (fun s => s.completePair o) (.pair o (.refl s)) h
    | powerOn => cases h; exact .quiet (.stop ..)
    | startupComplete straps => exact startupComplete_effect h
    | resetAssert => cases h; exact .quiet (.stop ..)
    | resetRelease straps => exact resetRelease_effect h
    | remainingCountFalls => exact whenOperating_effect State.countFalls (countFalls_effect s) h
    | _ => cases hp

/-- What a step can do, said once: every invariant of the contexts, the maps or the check follows from one case per
effect. -/
theorem step_effect {s t : State} (h : step s = .next t) : StepEffect s t := by
  unfold step at h
  split at h
  · cases h
    exact .quiet (.refl s)
  · exact .of_sameRun (.withPending ..) (exec_effect h)

end Sys2Proof.Machine
end

section
/-! PROOFS. Pages under test stay out of the spans of active contexts (R5, R9, R41, R42, R94, R145): the invariant,
what its parts depend on, and the operations of the run structure that keep it. -/

namespace Sys2Proof.Machine

/-! ### The invariant -/

/-- A slot holds an active context. -/
def State.activeAt (s : State) (c : ContextId) : Prop := ∃ k, s.ctx c = some k ∧ k.state.isActive = true

/-- Every member of the chain and of the ready list is an active context: what successor selection needs of the run
structure (R66, R67). -/
def MembersActive (s : State) : Prop := ∀ c, c ∈ s.chain ∨ c ∈ s.ready → s.activeAt c

/-- The span of a block is mapped by the owner with the access needed and holds no page under test. -/
def State.spanClear (s : State) (owner : PortId) (b : Block) : Prop :=
  s.accessGiven owner b = true ∧ ∀ g ∈ s.span owner b, s.heldMark g = false

/-- What `CheckHolds` says of the check record beside the state of the part while a check runs. -/
structure MarksMatch (s : State) : Prop where
  marks : ∀ g, s.heldMark g = (decide (s.check.state = .running) && s.check.selected.getLsbD g.val)
  results : ∀ g : PhysicalPage, (s.check.results[g]).isSome = s.check.selected.getLsbD g.val
  page : ∀ g, s.check.current = .page g → s.check.selected.getLsbD g.val = true
  pair : ∀ a b, s.check.current = .pair a b →
    s.check.selected.getLsbD a.val = true ∧ s.check.selected.getLsbD b.val = true

/-- The invariant but for what a RUNNING check says of the part, which fails inside the event that ends the check. -/
structure MarksGuarded (s : State) : Prop where
  members : MembersActive s
  marks : MarksMatch s
  spans : SpansProtected s

/-- The invariant that every operation keeps. -/
structure PagesGuarded (s : State) : Prop where
  members : MembersActive s
  check : CheckHolds s
  spans : SpansProtected s

theorem CheckHolds.marksMatch {s : State} (h : CheckHolds s) : MarksMatch s := by
  obtain ⟨marks, -, results, page, pair⟩ := h
  exact ⟨marks, results, page, pair⟩

theorem MarksMatch.checkHolds {s : State} (h : MarksMatch s)
    (hrun : s.check.state = .running →
      s.offline = false ∧ s.check.starter.isSome = true ∧ s.check.current ≠ .none) : CheckHolds s :=
  ⟨h.marks, hrun, h.results, h.page, h.pair⟩

theorem PagesGuarded.marksGuarded {s : State} (h : PagesGuarded s) : MarksGuarded s :=
  ⟨h.members, h.check.marksMatch, h.spans⟩

/-- The members of whole collections are active (R66). -/
theorem RunStructure.membersActive {s : State} (h : RunStructure s) : MembersActive s := by
  obtain ⟨collections, -⟩ := h
  intro c hc
  obtain ⟨head, tail, ready, -⟩ := collections c
  have active : ∃ st : ContextState, st.isActive = true ∧ (s.ctx c).map (·.state) = some st := by
    rcases hc with hc | hc
    · cases hchain : s.chain with
      | nil => simp [hchain] at hc
      | cons d rest =>
        rw [hchain] at hc head tail
        rcases List.mem_cons.mp hc with rfl | hc
        · exact ⟨.running, rfl, head.mp rfl⟩
        · exact ⟨.preempted, rfl, tail.mp hc⟩
    · exact ⟨.ready, rfl, ready.mp hc⟩
  obtain ⟨st, hst, hmap⟩ := active
  obtain ⟨k, hk, rfl⟩ := Option.map_eq_some_iff.mp hmap
  exact ⟨k, hk, hst⟩

/-! ### What the parts of the invariant depend on -/

theorem State.accessGiven_congr {s t : State} {p : PortId} (h : ∀ l, t.entry p l = s.entry p l) (b : Block) :
    t.accessGiven p b = s.accessGiven p b := by simp [State.accessGiven, h]

theorem State.span_congr {s t : State} {p : PortId} (h : ∀ l, t.entry p l = s.entry p l) (b : Block) :
    t.span p b = s.span p b := by simp [State.span, h]

/-- A span stays clear while the owner's map stands and no page becomes marked. -/
theorem State.spanClear.mono {s t : State} {p : PortId} {b : Block} (h : s.spanClear p b)
    (hentry : ∀ l, t.entry p l = s.entry p l) (hmark : ∀ g, s.heldMark g = false → t.heldMark g = false) :
    t.spanClear p b := by
  obtain ⟨access, clear⟩ := h
  refine ⟨(State.accessGiven_congr hentry b).trans access, fun g hg => hmark g (clear g ?_)⟩
  rwa [State.span_congr hentry b] at hg

/-- The spans stay protected where every active context stands as it was, with its owner's map, and no page becomes
marked. -/
theorem SpansProtected.mono {s t : State} (h : SpansProtected s)
    (hctx : ∀ c k, t.ctx c = some k → k.state.isActive = true →
      s.ctx c = some k ∧ ∀ l, t.entry k.owner l = s.entry k.owner l)
    (hmark : ∀ g, s.heldMark g = false → t.heldMark g = false) : SpansProtected t := by
  intro c k hk hactive
  obtain ⟨hs, hentry⟩ := hctx c k hk hactive
  exact State.spanClear.mono (h c k hs hactive) hentry hmark

/-- A rewritten record is protected where it is inactive, or its span is clear. -/
theorem SpansProtected.modCtx {s : State} (h : SpansProtected s) {c : ContextId} {f : Context → Context}
    (hf : ∀ k, s.ctx c = some k → (f k).state.isActive = true → s.spanClear (f k).owner (f k).block) :
    SpansProtected (s.modCtx c f) := by
  intro d k hk hactive
  rw [State.modCtx_ctx] at hk
  split at hk
  · obtain ⟨k₀, hk₀, rfl⟩ := Option.map_eq_some_iff.mp hk
    exact hf k₀ hk₀ hactive
  · exact h d k hk hactive

/-- A record that keeps owner and block, and is active only where it was, stays protected. -/
theorem SpansProtected.modCtx_same {s : State} (h : SpansProtected s) {c : ContextId} {f : Context → Context}
    (hf : ∀ k, s.ctx c = some k →
      (f k).owner = k.owner ∧ (f k).block = k.block ∧ ((f k).state.isActive = true → k.state.isActive = true)) :
    SpansProtected (s.modCtx c f) :=
  h.modCtx fun k hk hactive => by
    obtain ⟨howner, hblock, hstate⟩ := hf k hk
    rw [howner, hblock]
    exact h c k hk (hstate hactive)

theorem State.activeAt_modCtx {s : State} {c d : ContextId} {f : Context → Context} (h : s.activeAt d)
    (hf : d = c → ∀ k, s.ctx c = some k → k.state.isActive = true → (f k).state.isActive = true) :
    (s.modCtx c f).activeAt d := by
  obtain ⟨k, hk, hactive⟩ := h
  unfold State.activeAt
  rw [State.modCtx_ctx]
  split
  · rename_i hdc
    subst hdc
    exact ⟨f k, by rw [hk]; rfl, hf rfl k hk hactive⟩
  · exact ⟨k, hk, hactive⟩

/-- A slot just written with an active record is active. -/
theorem State.activeAt_modCtx_self {s : State} {c : ContextId} {f : Context → Context} {k : Context}
    (hk : s.ctx c = some k) (hf : (f k).state.isActive = true) : (s.modCtx c f).activeAt c :=
  ⟨f k, by rw [State.modCtx_ctx_self, hk]; rfl, hf⟩

theorem MembersActive.modCtx {s : State} (h : MembersActive s) {c : ContextId} {f : Context → Context}
    (hf : ∀ k, s.ctx c = some k → k.state.isActive = true → (f k).state.isActive = true) :
    MembersActive (s.modCtx c f) :=
  fun d hd => State.activeAt_modCtx (h d hd) fun _ => hf

theorem MembersActive.congr {s t : State} (h : MembersActive s) (hchain : t.chain = s.chain)
    (hready : t.ready = s.ready) (hctx : ∀ c, t.ctx c = s.ctx c) : MembersActive t := by
  intro c hc
  rw [hchain, hready] at hc
  obtain ⟨k, hk, hactive⟩ := h c hc
  exact ⟨k, (hctx c).trans hk, hactive⟩

theorem MarksGuarded.of_sameRun {s t : State} (h : SameRun s t) (hs : MarksGuarded s) : MarksGuarded t := by
  refine ⟨hs.members.congr h.chain h.ready h.ctx, ⟨fun g => ?_, ?_, ?_, ?_⟩, ?_⟩
  · rw [h.heldMark, h.check]
    exact hs.marks.marks g
  · rw [h.check]; exact hs.marks.results
  · rw [h.check]; exact hs.marks.page
  · rw [h.check]; exact hs.marks.pair
  · refine hs.spans.mono (fun c k hk _ => ⟨(h.ctx c).symm.trans hk, fun l => h.entry k.owner l⟩) fun g hg => ?_
    rw [h.heldMark]; exact hg

theorem PagesGuarded.of_sameRun {s t : State} (h : SameRun s t) (hs : PagesGuarded s) : PagesGuarded t := by
  have weak := hs.marksGuarded.of_sameRun h
  obtain ⟨-, running, -⟩ := hs.check
  refine ⟨weak.members, weak.marks.checkHolds ?_, weak.spans⟩
  rw [h.check, h.offline]
  exact running

theorem PagesGuarded.answer {s : State} (h : PagesGuarded s) (p : PortId) (code : Byte) (st : Status)
    (rs : List Byte) : PagesGuarded (s.answer p code st rs) := h.of_sameRun (.answer ..)

theorem PagesGuarded.refuse {s : State} (h : PagesGuarded s) (p : PortId) (code : Byte) (st : Status) :
    PagesGuarded (s.refuse p code st) := h.answer ..

/-! ### Leaving the run structure -/

/-- Successor selection rewrites at most one record, that of a member, which becomes RUNNING. -/
theorem State.settle_ctx_member (s : State) (c : ContextId) :
    s.settle.ctx c = s.ctx c ∨
      (c ∈ s.chain ∨ c ∈ s.ready) ∧ s.settle.ctx c = (s.ctx c).map fun k => k.withState .running := by
  unfold State.settle
  split
  · rename_i d _ hchain
    by_cases hc : c = d
    · subst hc
      exact Or.inr ⟨Or.inl (by simp [hchain]), State.modCtx_ctx_self ..⟩
    · exact Or.inl (State.modCtx_ctx_other _ hc _)
  · split
    · exact Or.inl rfl
    · rename_i d _ hready
      by_cases hc : c = d
      · subst hc
        exact Or.inr ⟨Or.inr (by simp [hready]), State.modCtx_ctx_self ..⟩
      · exact Or.inl (State.modCtx_ctx_other _ hc _)

theorem State.withdraw_ctx_member (s : State) (w : ContextId → Bool) (c : ContextId) :
    (s.withdraw w).ctx c = s.ctx c ∨
      ((c ∈ s.chain ∨ c ∈ s.ready) ∧ w c = false) ∧
        (s.withdraw w).ctx c = (s.ctx c).map fun k => k.withState .running := by
  rcases State.settle_ctx_member _ c with h | ⟨hmem, h⟩
  · exact Or.inl h
  · refine Or.inr ⟨?_, h⟩
    simp only [List.mem_filter, Bool.not_eq_true'] at hmem
    tauto

/-- The chain and the ready list after a withdrawal hold members that stay. -/
theorem State.mem_withdraw {s : State} {w : ContextId → Bool} {c : ContextId}
    (h : c ∈ (s.withdraw w).chain ∨ c ∈ (s.withdraw w).ready) : (c ∈ s.chain ∨ c ∈ s.ready) ∧ w c = false := by
  have left : c ∈ s.chain.filter (fun c => !w c) ∨ c ∈ s.ready.filter (fun c => !w c) := by
    rw [State.withdraw_chain, State.withdraw_ready] at h
    cases hchain : s.chain.filter (fun c => !w c) with
    | cons d rest =>
      simpa only [hchain] using h
    | nil =>
      cases hready : s.ready.filter (fun c => !w c) <;> simp_all
  simp only [List.mem_filter, Bool.not_eq_true'] at left
  tauto

/-- Every member that stays is active. -/
def StayersActive (s : State) (w : ContextId → Bool) : Prop :=
  ∀ c, c ∈ s.chain ∨ c ∈ s.ready → w c = false → s.activeAt c

theorem State.withdraw_membersActive {s : State} {w : ContextId → Bool} (h : StayersActive s w) :
    MembersActive (s.withdraw w) := by
  intro c hc
  obtain ⟨hmem, hstays⟩ := State.mem_withdraw hc
  obtain ⟨k, hk, hactive⟩ := h c hmem hstays
  rcases s.withdraw_ctx w c with hw | hw
  · exact ⟨k, hw.trans hk, hactive⟩
  · exact ⟨k.withState .running, by rw [hw, hk]; rfl, rfl⟩

theorem State.withdraw_spansProtected {s : State} {w : ContextId → Bool} (h : StayersActive s w)
    (hs : SpansProtected s) : SpansProtected (s.withdraw w) := by
  have clear {p : PortId} {b : Block} (hclear : s.spanClear p b) : (s.withdraw w).spanClear p b :=
    hclear.mono (fun l => State.withdraw_entry ..) fun g hg => by rwa [State.withdraw_heldMark]
  intro c k hk hactive
  rcases s.withdraw_ctx_member w c with hw | ⟨⟨hmem, hstays⟩, hw⟩
  · exact clear (hs c k (hw.symm.trans hk) hactive)
  · obtain ⟨k₀, hk₀, hactive₀⟩ := h c hmem hstays
    rw [hw, hk₀] at hk
    cases hk
    exact clear (hs c k₀ hk₀ hactive₀)

theorem CheckHolds.withdraw {s : State} (h : CheckHolds s) (w : ContextId → Bool) : CheckHolds (s.withdraw w) := by
  unfold CheckHolds
  simp only [State.withdraw_heldMark, State.withdraw_check, State.withdraw_offline]
  exact h

/-- A context that leaves, its record rewritten to one with the same span that is active only where it was. -/
theorem PagesGuarded.leave {s : State} (h : PagesGuarded s) {c : ContextId} {f : Context → Context}
    (hf : ∀ k, s.ctx c = some k →
      (f k).owner = k.owner ∧ (f k).block = k.block ∧ ((f k).state.isActive = true → k.state.isActive = true)) :
    PagesGuarded ((s.modCtx c f).withdraw (· = c)) := by
  have stayers : StayersActive (s.modCtx c f) (· = c) := fun d hd hdc =>
    State.activeAt_modCtx (h.members d hd) fun heq => absurd heq (by simpa using hdc)
  exact ⟨State.withdraw_membersActive stayers, CheckHolds.withdraw (s := s.modCtx c f) h.check _,
    State.withdraw_spansProtected stayers (h.spans.modCtx_same hf)⟩

/-! ### Acceptance and the service pass -/

theorem mem_insertByPriority {priority : ContextId → Nat} {c d : ContextId} {l : List ContextId}
    (h : d ∈ insertByPriority priority c l) : d = c ∨ d ∈ l := by
  induction l with
  | nil => exact Or.inl (List.mem_singleton.mp h)
  | cons e rest ih =>
    unfold insertByPriority at h
    split at h <;> simp only [List.mem_cons] at h ⊢ <;> tauto

/-- A slot holds a context whose span is clear. -/
def State.slotClear (s : State) (c : ContextId) : Prop := ∃ k, s.ctx c = some k ∧ s.spanClear k.owner k.block

theorem State.slotClear.modCtx {s : State} {c : ContextId} (h : s.slotClear c) (d : ContextId) (st : ContextState) :
    (s.modCtx d fun k => k.withState st).slotClear c := by
  obtain ⟨k, hk, hclear⟩ := h
  unfold State.slotClear
  rw [State.modCtx_ctx]
  split
  · rename_i hcd
    subst hcd
    exact ⟨k.withState st, by rw [hk]; rfl, hclear⟩
  · exact ⟨k, hk, hclear⟩

theorem SpansProtected.accepted {s : State} (h : SpansProtected s) {c : ContextId} (hc : s.slotClear c)
    (who : Starter) (st : ContextState) (nested : Bool) :
    SpansProtected (s.modCtx c fun k => k.accepted who st nested) := by
  obtain ⟨k, hk, hclear⟩ := hc
  refine h.modCtx fun k' hk' _ => ?_
  cases hk.symm.trans hk'
  exact hclear

theorem State.activeAt_accepted {s : State} {c d : ContextId} (hc : s.slotClear c) (hd : d = c ∨ s.activeAt d)
    (who : Starter) {st : ContextState} (hst : st.isActive = true) (nested : Bool) :
    (s.modCtx c fun k => k.accepted who st nested).activeAt d := by
  rcases hd with rfl | hd
  · obtain ⟨k, hk, -⟩ := hc
    exact State.activeAt_modCtx_self hk hst
  · exact State.activeAt_modCtx hd fun _ _ _ _ => hst

/-- An accepted context whose span is clear is protected, and the collections hold active contexts (R42, R60). -/
theorem PagesGuarded.accept {s : State} (h : PagesGuarded s) {c : ContextId} (hc : s.slotClear c) (kind : GateKind)
    (who : Starter) : PagesGuarded (s.accept c kind who) := by
  unfold State.accept
  split
  · refine ⟨fun d hd => ?_, h.check, h.spans.accepted hc who .running false⟩
    have hd : d ∈ [c] ∨ d ∈ s.ready := hd
    exact State.activeAt_accepted (st := .running) hc (hd.imp List.mem_singleton.mp fun hd => h.members d (.inr hd)) who
      rfl false
  · split
    · refine ⟨fun d hd => ?_, h.check, h.spans.accepted hc who .ready false⟩
      have hd : d ∈ s.chain ∨ d ∈ insertByPriority s.priorityOf c s.ready := hd
      have hd : d = c ∨ s.activeAt d := by
        rcases hd with hd | hd
        · exact Or.inr (h.members d (.inl hd))
        · exact (mem_insertByPriority hd).imp_right fun hd => h.members d (.inr hd)
      exact State.activeAt_accepted hc hd who (st := .ready) rfl false
    · rename_i runner _ hchain _
      have running : s.activeAt runner := h.members runner (.inl (by simp [hchain]))
      have stepped : SpansProtected (s.modCtx runner fun k => k.withState .preempted) :=
        h.spans.modCtx_same fun k hk => ⟨rfl, rfl, fun _ => by
          obtain ⟨k', hk', hactive⟩ := running
          cases hk.symm.trans hk'
          exact hactive⟩
      have hc' := hc.modCtx runner .preempted
      refine ⟨fun d hd => ?_, h.check, stepped.accepted hc' who .running true⟩
      have hd : d ∈ c :: s.chain ∨ d ∈ s.ready := hd
      have hd : d = c ∨ s.activeAt d := by
        rcases hd with hd | hd
        · exact (List.mem_cons.mp hd).imp_right fun hd => h.members d (.inl hd)
        · exact Or.inr (h.members d (.inr hd))
      exact State.activeAt_accepted hc'
        (hd.imp_right fun hd => State.activeAt_modCtx hd fun _ _ _ _ => rfl) who (st := .running) rfl true

/-- A passed check sequence finds the span of the gate's context clear (R53 checks 8 and 10). -/
theorem State.slotClear_of_checkInvocation {s : State} {gate : Option Gate} {who : Starter} {g : Gate}
    (h : s.checkInvocation gate who = .ok g) : s.slotClear g.context := by
  obtain ⟨-, -, k, hk, -, -, -, -, access, -, held⟩ := State.checkInvocation_ok h
  exact ⟨k, hk, access, by simpa using held⟩

theorem PagesGuarded.serveLine {s : State} (h : PagesGuarded s) (l : LineId) : PagesGuarded (s.serveLine l) := by
  unfold State.serveLine
  split
  · rename_i g hg
    exact (h.accept (State.slotClear_of_checkInvocation hg) ..).of_sameRun (.modLine ..)
  · split
    · exact h.of_sameRun (.modLine ..)
    · exact h.of_sameRun ((SameRun.modLine ..).trans (.raiseAt ..))

theorem PagesGuarded.servicePass {s : State} (h : PagesGuarded s) : PagesGuarded s.servicePass :=
  servicePass_invariant (fun _ l hs => hs.serveLine l) h

theorem PagesGuarded.serviceIf {s : State} (h : PagesGuarded s) (b : Bool) : PagesGuarded (s.serviceIf b) := by
  unfold State.serviceIf
  split
  · exact h.servicePass
  · exact h

/-- A context ends, DONE or FAULTED (R75, R81). -/
theorem PagesGuarded.endContext {s : State} (h : PagesGuarded s) (c : ContextId) {st : ContextState}
    (hst : st.isActive = false) (cause : Option FaultCause) (o : Ending) :
    PagesGuarded (((s.modCtx c fun k => k.ended st cause).withdraw (· = c)).postNotice c o).servicePass := by
  have inactive (k : Context) : (k.ended st cause).state.isActive = false := hst
  have left : PagesGuarded ((s.modCtx c fun k => k.ended st cause).withdraw (· = c)) :=
    h.leave fun k _ => ⟨rfl, rfl, fun hactive => absurd hactive (by simp [inactive])⟩
  exact (left.of_sameRun (.postNotice ..)).servicePass

theorem PagesGuarded.completeContext {s : State} (h : PagesGuarded s) (c : ContextId) :
    PagesGuarded (s.completeContext c) := h.endContext c rfl none .done

theorem PagesGuarded.faultContext {s : State} (h : PagesGuarded s) (c : ContextId) (cause : FaultCause) :
    PagesGuarded (s.faultContext c cause) := h.endContext c rfl (some cause) .faulted

/-! ### The element step -/

/-- Operand and saturation records change; the span does not. -/
theorem PagesGuarded.modCtx_same {s : State} (h : PagesGuarded s) {c : ContextId} {f : Context → Context}
    (hf : ∀ k, s.ctx c = some k →
      (f k).owner = k.owner ∧ (f k).block = k.block ∧ (f k).state.isActive = k.state.isActive) :
    PagesGuarded (s.modCtx c f) := by
  refine ⟨h.members.modCtx fun k hk hactive => ?_, h.check, h.spans.modCtx_same fun k hk => ?_⟩
  · obtain ⟨-, -, hstate⟩ := hf k hk
    exact hstate.trans hactive
  · obtain ⟨howner, hblock, hstate⟩ := hf k hk
    exact ⟨howner, hblock, hstate.symm.trans⟩

theorem PagesGuarded.finishStep {s : State} (h : PagesGuarded s) (c : ContextId) (k : Context) (r : StepResult) :
    PagesGuarded (s.finishStep c k r) := by
  have written : PagesGuarded ((s.writeResults k.owner r.writes).modCtx c fun x => x.advanced r) :=
    (h.of_sameRun (.writeResults ..)).modCtx_same fun _ _ => ⟨rfl, rfl, rfl⟩
  unfold State.finishStep
  dsimp only
  split
  · exact written.completeContext c
  · exact written

theorem PagesGuarded.stepContext {s : State} (h : PagesGuarded s) (c : ContextId) (k : Context) (f : Option Nat) :
    PagesGuarded (s.stepContext c k f) := by
  unfold State.stepContext
  split
  · exact h.faultContext ..
  · split
    · exact (h.of_sameRun (.wordCheckFailure ..)).faultContext ..
    · split
      · exact h.faultContext ..
      · exact h.finishStep ..

theorem PagesGuarded.elementStep {s : State} (h : PagesGuarded s) (f : Option Nat) :
    PagesGuarded (s.elementStep f) := by
  unfold State.elementStep
  split
  · exact h
  · split
    · exact h
    · exact h.stepContext ..

end Sys2Proof.Machine
end

section
/-! PROOFS. The operations of the store check and the resets keep the pages under test out of the spans of active
contexts (R144 to R158). -/

namespace Sys2Proof.Machine

/-! ### The end of a check (R154) -/

theorem CheckRecord.settleResults_isSome (r : CheckRecord) (g : PhysicalPage) :
    (r.settleResults.results[g]).isSome = (r.results[g]).isSome := by
  unfold CheckRecord.settleResults
  split
  · dsimp only
    rw [ofFn_get]
    split <;> simp_all
  · rfl

theorem CheckRecord.settleResults_selected (r : CheckRecord) : r.settleResults.selected = r.selected := by
  unfold CheckRecord.settleResults
  split <;> rfl

theorem State.closeCheck_heldMark (s : State) (g : PhysicalPage) :
    s.closeCheck.heldMark g = (s.heldMark g && !s.check.selected.getLsbD g.val) := ofFn_get ..

@[simp] theorem State.closeCheck_chain (s : State) : s.closeCheck.chain = s.chain := by unfold State.closeCheck; rfl
@[simp] theorem State.closeCheck_ready (s : State) : s.closeCheck.ready = s.ready := by unfold State.closeCheck; rfl
@[simp] theorem State.closeCheck_ctx (s : State) (c : ContextId) : s.closeCheck.ctx c = s.ctx c := by
  unfold State.closeCheck State.ctx; rfl
@[simp] theorem State.closeCheck_entry (s : State) (p : PortId) (l : LogicalPage) :
    s.closeCheck.entry p l = s.entry p l := by
  unfold State.closeCheck State.entry; rfl

/-- An ended check leaves no page marked, and its current test stands or is none. -/
theorem MarksMatch.closeCheck {s : State} (h : MarksMatch s) : MarksMatch s.closeCheck := by
  have selected : s.closeCheck.check.selected = s.check.selected := s.check.settleResults_selected
  have current (x : CurrentTest) (hx : s.closeCheck.check.current = x) (hne : x ≠ .none) : s.check.current = x := by
    have hx : (if s.check.aborted then s.check.current else .none) = x := hx
    split at hx
    · exact hx
    · exact absurd hx.symm hne
  refine ⟨fun g => ?_, fun g => ?_, fun g hg => ?_, fun a b hab => ?_⟩
  · rw [State.closeCheck_heldMark, h.marks g]
    show _ = (decide (CheckState.ended = .running) && _)
    cases s.check.selected.getLsbD g.val <;> simp
  · rw [selected]
    exact (s.check.settleResults_isSome g).trans (h.results g)
  · rw [selected]
    exact h.page g (current _ hg nofun)
  · rw [selected]
    exact h.pair a b (current _ hab nofun)

theorem MarksGuarded.closeCheck {s : State} (h : MarksGuarded s) : PagesGuarded s.closeCheck := by
  refine ⟨h.members.congr (by simp) (by simp) (by simp), h.marks.closeCheck.checkHolds ?_, ?_⟩
  · intro hrun
    exact absurd (show CheckState.ended = .running from hrun) nofun
  · refine h.spans.mono (fun c k hk _ => ⟨by simpa using hk, by simp⟩) fun g hg => ?_
    rw [State.closeCheck_heldMark, hg]
    rfl

/-- The end of a check needs no working part: it also ends the check that set OFFLINE (R148, R154). -/
theorem MarksGuarded.endCheck {s : State} (h : MarksGuarded s) : PagesGuarded s.endCheck :=
  (h.closeCheck.of_sameRun ((SameRun.raiseAt ..).trans (.raiseAt ..))).servicePass

/-! ### The tests of a check -/

/-- The invariant, and a check that is RUNNING on a working store. -/
structure CheckGuarded (s : State) : Prop extends MarksGuarded s where
  working : s.offline = false
  started : s.check.starter.isSome = true
  running : s.check.state = .running

theorem PagesGuarded.checkGuarded {s : State} (h : PagesGuarded s) (hrun : s.check.state = .running) :
    CheckGuarded s := by
  obtain ⟨-, running, -⟩ := h.check
  obtain ⟨working, started, -⟩ := running hrun
  exact { h.marksGuarded with working := working, started := started, running := hrun }

/-- A test of selected pages begins. -/
theorem CheckGuarded.take {s : State} (h : CheckGuarded s) {x : CurrentTest} (hne : x ≠ .none)
    (hpage : ∀ g, x = .page g → s.check.selected.getLsbD g.val = true)
    (hpair : ∀ a b, x = .pair a b →
      s.check.selected.getLsbD a.val = true ∧ s.check.selected.getLsbD b.val = true) :
    PagesGuarded (s.modCheck fun r => { r with current := x }) :=
  ⟨h.members, ⟨h.marks.marks, fun _ => ⟨h.working, h.started, hne⟩, h.marks.results, hpage, hpair⟩, h.spans⟩

theorem CheckGuarded.takePair {s : State} (h : CheckGuarded s) {next : Option (PhysicalPage × PhysicalPage)}
    (hnext : ∀ x, next = some x → x ∈ s.eligiblePairs) : PagesGuarded (s.takePair next) := by
  unfold State.takePair
  split
  · rename_i a b
    obtain ⟨ha, hb, -⟩ := (s.mem_eligiblePairs a b).mp (hnext (a, b) rfl)
    refine h.take nofun nofun fun a' b' hab => ?_
    cases hab
    obtain ⟨ha, -⟩ := (s.eligible_iff a).mp ha
    obtain ⟨hb, -⟩ := (s.eligible_iff b).mp hb
    exact ⟨ha, hb⟩
  · exact h.endCheck

theorem CheckGuarded.nextPair {s : State} (h : CheckGuarded s) (x : PhysicalPage × PhysicalPage) :
    PagesGuarded (s.nextPair x) := h.takePair fun _ hx => List.mem_of_find?_eq_some hx

theorem CheckGuarded.afterPattern {s : State} (h : CheckGuarded s) : PagesGuarded s.afterPattern := by
  unfold State.afterPattern
  split
  · exact h.takePair fun _ hx => List.mem_of_head? hx
  · exact h.endCheck

theorem CheckGuarded.nextPageTest {s : State} (h : CheckGuarded s) : PagesGuarded s.nextPageTest := by
  unfold State.nextPageTest
  split
  · rename_i g hg
    have notReached : s.check.results[g] = some .notReached := by simpa using List.find?_some hg
    refine h.take nofun (fun g' hg' => ?_) nofun
    cases hg'
    rw [← h.marks.results g, notReached]
    rfl
  · exact h.afterPattern

theorem CheckGuarded.afterReference {s : State} (h : CheckGuarded s) : PagesGuarded s.afterReference := by
  unfold State.afterReference
  split
  · exact h.nextPageTest
  · exact h.afterPattern

/-- Results given to selected pages leave a RUNNING check guarded. -/
theorem CheckGuarded.withResults {s : State} (h : CheckGuarded s) {r : CheckRecord}
    (hr : r = { s.check with reference := r.reference, results := r.results })
    (hresults : ∀ g : PhysicalPage, (r.results[g]).isSome = s.check.selected.getLsbD g.val) :
    CheckGuarded { s with check := r } := by
  have hselected : r.selected = s.check.selected := by rw [hr]
  have hcurrent : r.current = s.check.current := by rw [hr]
  have hstate : r.state = s.check.state := by rw [hr]
  have hstarter : r.starter = s.check.starter := by rw [hr]
  refine ⟨⟨h.members, ⟨fun g => ?_, fun g => ?_, fun g hg => ?_, fun a b hab => ?_⟩, h.spans⟩, h.working, ?_, ?_⟩
  · show s.heldMark g = (decide (r.state = .running) && r.selected.getLsbD g.val)
    rw [hstate, hselected, h.marks.marks g]
  · show (r.results[g]).isSome = r.selected.getLsbD g.val
    rw [hselected, hresults]
  · show r.selected.getLsbD g.val = true
    rw [hselected]
    exact h.marks.page g (hcurrent.symm.trans hg)
  · show r.selected.getLsbD a.val = true ∧ r.selected.getLsbD b.val = true
    rw [hselected]
    exact h.marks.pair a b (hcurrent.symm.trans hab)
  · exact (congrArg Option.isSome hstarter).trans h.started
  · exact hstate.trans h.running

theorem CheckGuarded.withResult {s : State} (h : CheckGuarded s) {g : PhysicalPage}
    (hg : s.check.selected.getLsbD g.val = true) (x : PageResult) :
    CheckGuarded (s.modCheck fun r => r.withResult g x) := by
  refine h.withResults (r := s.check.withResult g x) rfl fun g' => ?_
  show ((update s.check.results g (some x))[g']).isSome = _
  rw [update_get]
  split
  · rename_i heq
    rw [heq, hg]
    rfl
  · exact h.marks.results g'

theorem CheckGuarded.of_sameRun {s t : State} (hst : SameRun s t) (h : CheckGuarded s) : CheckGuarded t :=
  { h.toMarksGuarded.of_sameRun hst with
    working := hst.offline.trans h.working
    started := by rw [hst.check]; exact h.started
    running := by rw [hst.check]; exact h.running }

theorem CheckGuarded.referencePassed {s : State} (h : CheckGuarded s) : PagesGuarded s.referencePassed := by
  refine CheckGuarded.afterReference (h.withResults rfl fun g => ?_)
  dsimp only
  rw [ofFn_get]
  split
  · rename_i hg
    obtain ⟨hselected, -⟩ := Bool.and_eq_true_iff.mp hg
    rw [hselected]
    rfl
  · exact h.marks.results g

theorem MarksGuarded.referenceFailed {s : State} (h : MarksGuarded s) : PagesGuarded s.referenceFailed := by
  refine MarksGuarded.endCheck (MarksGuarded.of_sameRun (.raiseAt ..) ?_)
  exact ⟨h.members, ⟨h.marks.marks, h.marks.results, h.marks.page, h.marks.pair⟩, h.spans⟩

theorem PagesGuarded.completeReference {s : State} (h : PagesGuarded s) (o : TestOutcome) :
    PagesGuarded (s.completeReference o) := by
  unfold State.completeReference
  split
  · rename_i hrun _
    exact (h.checkGuarded hrun).referencePassed
  · exact h.marksGuarded.referenceFailed
  · exact h

theorem SameRun.zeroFill (s : State) (m : Memory) : SameRun s { s with words := m } :=
  ⟨rfl, rfl, rfl, rfl, rfl, rfl, rfl⟩

theorem SameRun.modFaults (s : State) (g : PhysicalPage) (f : FaultSet → FaultSet) : SameRun s (s.modFaults g f) :=
  ⟨rfl, rfl, rfl, rfl, rfl, rfl, rfl⟩

theorem CheckGuarded.judgePage {s : State} (h : CheckGuarded s) {g : PhysicalPage}
    (hg : s.check.selected.getLsbD g.val = true) (o : TestOutcome) : CheckGuarded (s.judgePage g o) := by
  have zeroed := h.of_sameRun (.zeroFill s (s.words.zeroPage g))
  cases o with
  | pass => exact zeroed.withResult hg .pass
  | fail => exact (zeroed.of_sameRun (.modFaults _ g fun f => { f with pattern := true })).withResult hg .failPattern

theorem CheckGuarded.judgePair {s : State} (h : CheckGuarded s) {a b : PhysicalPage}
    (ha : s.check.selected.getLsbD a.val = true) (hb : s.check.selected.getLsbD b.val = true) (o : TestOutcome) :
    CheckGuarded (s.judgePair a b o) := by
  have zeroed := h.of_sameRun (.zeroFill s ((s.words.zeroPage a).zeroPage b))
  cases o with
  | pass => exact zeroed
  | fail =>
    have faulted := zeroed.of_sameRun
      ((SameRun.modFaults _ a fun f => { f with decode := true }).trans
        (.modFaults _ b fun f => { f with decode := true }))
    exact (faulted.withResult ha .failDecode).withResult hb .failDecode

theorem PagesGuarded.completePage {s : State} (h : PagesGuarded s) (o : TestOutcome) :
    PagesGuarded (s.completePage o) := by
  unfold State.completePage
  split
  · rename_i g hrun hg
    exact ((h.checkGuarded hrun).judgePage (h.check.marksMatch.page g hg) o).nextPageTest
  · exact h

theorem PagesGuarded.completePair {s : State} (h : PagesGuarded s) (o : TestOutcome) :
    PagesGuarded (s.completePair o) := by
  unfold State.completePair
  split
  · rename_i a b hrun hab
    obtain ⟨ha, hb⟩ := h.check.marksMatch.pair a b hab
    exact ((h.checkGuarded hrun).judgePair ha hb o).nextPair _
  · exact h

/-! ### Resets -/

/-- With every slot FREE and no check there is nothing to guard. -/
theorem PagesGuarded.clearBlocks (s : State) : PagesGuarded s.clearBlocks := by
  have free (c : ContextId) : s.clearBlocks.ctx c = none := replicate_get ..
  refine ⟨fun c hc => ?_, ⟨fun g => ?_, nofun, fun g => ?_, nofun, nofun⟩, fun c k hk => ?_⟩
  · exact absurd hc (by simp [State.clearBlocks])
  · exact replicate_get ..
  · show ((Vector.replicate 64 (none : Option PageResult))[g]).isSome = (0 : PageSet).getLsbD g.val
    rw [replicate_get]
    simp
  · rw [free c] at hk
    cases hk

theorem PagesGuarded.start (s : State) (straps : Vector Level 4) (ph : Phase) : PagesGuarded (s.start straps ph) := by
  obtain ⟨members, ⟨marks, -, results⟩, spans⟩ := PagesGuarded.clearBlocks s
  exact ⟨members, ⟨marks, nofun, results⟩, spans⟩

theorem PagesGuarded.restart (s : State) (p : PortId) : PagesGuarded (s.restart p) := by
  have same : SameRun s.dropCheck.clearBlocks (s.restart p) := ⟨rfl, rfl, rfl, rfl, rfl, rfl, rfl⟩
  exact (PagesGuarded.clearBlocks s.dropCheck).of_sameRun same

end Sys2Proof.Machine
end

section
/-! PROOFS. Every command, and so every step, keeps the pages under test out of the spans of active contexts. -/

namespace Sys2Proof.Machine

/-! ### The map lock (R9) -/

theorem State.mapLocked_iff (s : State) (p : PortId) :
    s.mapLocked p = true ↔ ∃ c k, s.ctx c = some k ∧ k.owner = p ∧ k.state.isActive = true := by
  simp only [State.mapLocked, State.activeOwnedBy, List.any_eq_true, List.mem_finRange, true_and]
  refine exists_congr fun c => ?_
  cases s.ctx c <;> simp

theorem State.mapLocked_of_active {s : State} {c : ContextId} {k : Context} (hk : s.ctx c = some k)
    (hactive : k.state.isActive = true) : s.mapLocked k.owner = true :=
  (s.mapLocked_iff k.owner).mpr ⟨c, k, hk, rfl, hactive⟩

/-! ### Store commands -/

/-- A map that no active context goes through can be replaced (R9). -/
theorem PagesGuarded.writeMaps {s : State} (h : PagesGuarded s) {p : PortId} (hp : s.mapLocked p = false)
    (m : WindowMap) : PagesGuarded { s with maps := update s.maps p m } := by
  refine ⟨h.members, h.check, h.spans.mono (fun c k hk hactive => ⟨hk, fun l => ?_⟩) fun _ hg => hg⟩
  have other : k.owner ≠ p := by
    rintro rfl
    have locked : s.mapLocked k.owner = true := State.mapLocked_of_active hk hactive
    rw [hp] at locked
    cases locked
  show (update s.maps p m)[k.owner][l] = s.maps[k.owner][l]
  rw [update_get_other _ other]

theorem checkWriteMap_ok {p : PortId} {fs : List MapFields} {s : State} {es : List (LogicalPage × MapEntry)}
    (h : checkWriteMap p fs s = .ok es) : s.mapLocked p = false := by
  unfold checkWriteMap at h
  split at h
  · cases h
  · split_ifs at h with hlocked
    simpa using hlocked

theorem PagesGuarded.takeWriteMap {s : State} (h : PagesGuarded s) (p : PortId) (fs : List MapFields) :
    PagesGuarded (takeWriteMap p fs s) := by
  unfold Machine.takeWriteMap
  split
  · exact h.refuse ..
  · rename_i hok
    exact (h.writeMaps (checkWriteMap_ok hok) _).answer ..

@[simp] theorem State.clearFaults_chain (s : State) (pages : PageSet) (kinds : FaultSet) (off : Bool) :
    (s.clearFaults pages kinds off).chain = s.chain := by unfold State.clearFaults; rfl
@[simp] theorem State.clearFaults_ready (s : State) (pages : PageSet) (kinds : FaultSet) (off : Bool) :
    (s.clearFaults pages kinds off).ready = s.ready := by unfold State.clearFaults; rfl
@[simp] theorem State.clearFaults_check (s : State) (pages : PageSet) (kinds : FaultSet) (off : Bool) :
    (s.clearFaults pages kinds off).check = s.check := by unfold State.clearFaults; rfl
@[simp] theorem State.clearFaults_maps (s : State) (pages : PageSet) (kinds : FaultSet) (off : Bool) :
    (s.clearFaults pages kinds off).maps = s.maps := by unfold State.clearFaults; rfl
@[simp] theorem State.clearFaults_offline (s : State) (pages : PageSet) (kinds : FaultSet) (off : Bool) :
    (s.clearFaults pages kinds off).offline = (s.offline && !off) := by unfold State.clearFaults; rfl
@[simp] theorem State.clearFaults_ctx (s : State) (pages : PageSet) (kinds : FaultSet) (off : Bool) (c : ContextId) :
    (s.clearFaults pages kinds off).ctx c = s.ctx c := by unfold State.clearFaults State.ctx; rfl
@[simp] theorem State.clearFaults_entry (s : State) (pages : PageSet) (kinds : FaultSet) (off : Bool) (p : PortId)
    (l : LogicalPage) : (s.clearFaults pages kinds off).entry p l = s.entry p l := by
  unfold State.clearFaults State.entry; rfl
@[simp] theorem State.clearFaults_heldMark (s : State) (pages : PageSet) (kinds : FaultSet) (off : Bool)
    (g : PhysicalPage) : (s.clearFaults pages kinds off).heldMark g = s.heldMark g := by
  unfold State.clearFaults State.heldMark; rfl

/-- OFFLINE can only be cleared, which a RUNNING check finds cleared (R21). -/
theorem PagesGuarded.clearFaults {s : State} (h : PagesGuarded s) (pages : PageSet) (kinds : FaultSet) (off : Bool) :
    PagesGuarded (s.clearFaults pages kinds off) := by
  refine ⟨h.members.congr (by simp) (by simp) (by simp), ?_,
    h.spans.mono (fun c k hk _ => ⟨by simpa using hk, by simp⟩) (by simp)⟩
  obtain ⟨marks, running, results⟩ := h.check
  unfold CheckHolds
  simp only [State.clearFaults_heldMark, State.clearFaults_check, State.clearFaults_offline]
  refine ⟨marks, fun hrun => ?_, results⟩
  obtain ⟨working, rest⟩ := running hrun
  exact ⟨by rw [working]; rfl, rest⟩

theorem PagesGuarded.takeClearFaults {s : State} (h : PagesGuarded s) (p : PortId) (pages : PageSet)
    (kinds : FaultSet) (clearOffline : Bool) : PagesGuarded (takeClearFaults p pages kinds clearOffline s) := by
  unfold Machine.takeClearFaults
  split
  · exact h.refuse ..
  · exact (h.clearFaults ..).answer ..

/-! ### Context commands -/

theorem checkDefine_ok {slot : Byte} {f : BlockFields} {s : State} {c : ContextId} {b : Block}
    (h : checkDefine slot f s = .ok (c, b)) : s.ctx c = none := by
  unfold checkDefine at h
  split at h
  · cases h
  · split at h
    · cases h
    · rename_i hfree
      split at h
      · cases h
      · cases h
        exact hfree

/-- A FREE slot is in no collection, and takes a context that is not active (R33). -/
theorem PagesGuarded.define {s : State} (h : PagesGuarded s) {c : ContextId} (hc : s.ctx c = none) {k : Context}
    (hk : k.state.isActive = false) : PagesGuarded (s.setCtx c (some k)) := by
  refine ⟨fun d hd => ?_, h.check, fun d k' hk' hactive => ?_⟩
  · obtain ⟨kd, hkd, hactive⟩ := h.members d hd
    refine ⟨kd, ?_, hactive⟩
    rw [State.setCtx_ctx, if_neg, hkd]
    rintro rfl
    rw [hc] at hkd
    cases hkd
  · rw [State.setCtx_ctx] at hk'
    split at hk'
    · cases hk'
      rw [hk] at hactive
      cases hactive
    · exact h.spans d k' hk' hactive

/-- A record that is inactive before and after may change its block (R35, R37). -/
theorem PagesGuarded.modInactive {s : State} (h : PagesGuarded s) {c : ContextId} {f : Context → Context}
    (hf : ∀ k, s.ctx c = some k → k.state.isActive = false ∧ (f k).state.isActive = false) :
    PagesGuarded (s.modCtx c f) := by
  refine ⟨h.members.modCtx fun k hk hactive => ?_, h.check, h.spans.modCtx fun k hk hactive => ?_⟩
  · obtain ⟨before, -⟩ := hf k hk
    exact absurd hactive (by simp [before])
  · obtain ⟨-, after⟩ := hf k hk
    exact absurd hactive (by simp [after])

theorem checkOwned_ok {p : PortId} {slot : Byte} {s : State} {c : ContextId} {k : Context}
    (h : checkOwned p slot s = .ok (c, k)) : s.ctx c = some k := by
  unfold checkOwned at h
  split at h
  · cases h
  · split at h
    · cases h
    · rename_i hk
      split_ifs at h
      cases h
      exact hk

theorem checkSetParams_ok {p : PortId} {slot : Byte} {f : BlockFields} {s : State} {c : ContextId} {b : Block}
    (h : checkSetParams p slot f s = .ok (c, b)) : ∃ k, s.ctx c = some k ∧ k.state.isActive = false := by
  unfold checkSetParams at h
  split at h
  · cases h
  · rename_i hown
    split_ifs at h with hactive
    split at h
    · cases h
    · cases h
      exact ⟨_, checkOwned_ok hown, by simpa using hactive⟩

theorem checkClearContext_ok {p : PortId} {slot : Byte} {s : State} {c : ContextId}
    (h : checkClearContext p slot s = .ok c) : ∃ k, s.ctx c = some k ∧ k.state.isActive = false := by
  unfold checkClearContext at h
  split at h
  · cases h
  · rename_i hown
    split_ifs at h with hactive
    cases h
    exact ⟨_, checkOwned_ok hown, by simpa using hactive⟩

theorem checkFreeContext_ok {p : PortId} {slot : Byte} {s : State} {c : ContextId}
    (h : checkFreeContext p slot s = .ok c) : ∃ k, s.ctx c = some k ∧ k.state.isActive = false := by
  unfold checkFreeContext at h
  split at h
  · cases h
  · rename_i hown
    split_ifs at h with hactive
    cases h
    exact ⟨_, checkOwned_ok hown, by simpa using hactive⟩

theorem PagesGuarded.takeDefineContext {s : State} (h : PagesGuarded s) (p : PortId) (slot : Byte)
    (f : BlockFields) : PagesGuarded (takeDefineContext p slot f s) := by
  unfold Machine.takeDefineContext
  split
  · exact h.refuse ..
  · rename_i hok
    exact (h.define (checkDefine_ok hok) rfl).answer ..

theorem PagesGuarded.takeSetParams {s : State} (h : PagesGuarded s) (p : PortId) (slot : Byte) (f : BlockFields) :
    PagesGuarded (takeSetParams p slot f s) := by
  unfold Machine.takeSetParams
  split
  · exact h.refuse ..
  · rename_i hok
    obtain ⟨k, hk, hactive⟩ := checkSetParams_ok hok
    refine (h.modInactive fun k' hk' => ?_).answer ..
    cases hk.symm.trans hk'
    exact ⟨hactive, hactive⟩

theorem PagesGuarded.takeClearContext {s : State} (h : PagesGuarded s) (p : PortId) (slot : Byte) :
    PagesGuarded (takeClearContext p slot s) := by
  unfold Machine.takeClearContext
  split
  · exact h.refuse ..
  · rename_i hok
    obtain ⟨k, hk, hactive⟩ := checkClearContext_ok hok
    refine (PagesGuarded.servicePass (h.modInactive fun k' hk' => ?_)).answer ..
    cases hk.symm.trans hk'
    exact ⟨hactive, rfl⟩

/-- Slots that hold no member of the chain or the ready list become FREE (R39). -/
theorem PagesGuarded.freeSlots {s : State} (h : PagesGuarded s) {w : ContextId → Bool}
    (hw : ∀ c, c ∈ s.chain ∨ c ∈ s.ready → w c = false) : PagesGuarded (s.freeSlots w) := by
  refine ⟨fun c hc => ?_, ?_, ?_⟩
  · rw [State.freeSlots_chain, State.freeSlots_ready] at hc
    obtain ⟨k, hk, hactive⟩ := h.members c hc
    exact ⟨k, by rw [State.freeSlots_ctx, hw c hc]; simpa using hk, hactive⟩
  · unfold CheckHolds
    simp only [State.freeSlots_heldMark, State.freeSlots_check, State.freeSlots_offline]
    exact h.check
  · refine h.spans.mono (fun c k hk _ => ⟨?_, by simp⟩) fun g hg => by rwa [State.freeSlots_heldMark]
    rw [State.freeSlots_ctx] at hk
    split at hk
    · cases hk
    · exact hk

theorem PagesGuarded.takeFreeContext {s : State} (h : PagesGuarded s) (p : PortId) (slot : Byte) :
    PagesGuarded (takeFreeContext p slot s) := by
  unfold Machine.takeFreeContext
  split
  · exact h.refuse ..
  · rename_i c hok
    obtain ⟨k, hk, hinactive⟩ := checkFreeContext_ok hok
    refine (h.freeSlots fun d hd => ?_).answer ..
    obtain ⟨kd, hkd, hactive⟩ := h.members d hd
    refine decide_eq_false ?_
    rintro rfl
    cases hk.symm.trans hkd
    rw [hinactive] at hactive
    cases hactive

/-! ### Gates and the run commands -/

theorem PagesGuarded.takeWriteGate {s : State} (h : PagesGuarded s) (p : PortId) (gate : Byte) (present : Bool)
    (f : GateFields) : PagesGuarded (takeWriteGate p gate present f s) := by
  unfold Machine.takeWriteGate
  split
  · exact h.refuse ..
  · rename_i g record _
    have written : SameRun s { s with gates := update s.gates g record } := ⟨rfl, rfl, rfl, rfl, rfl, rfl, rfl⟩
    exact (h.of_sameRun written).servicePass.answer ..

theorem PagesGuarded.takeInvoke {s : State} (h : PagesGuarded s) (p : PortId) (gate : Byte) :
    PagesGuarded (takeInvoke p gate s) := by
  unfold Machine.takeInvoke
  split
  · exact h.refuse ..
  · rename_i hok
    exact (h.accept (State.slotClear_of_checkInvocation hok) ..).answer ..

theorem checkControl_ok {p : PortId} {slot : Byte} {s : State} {c : ContextId} {k : Context}
    (h : checkControl p slot s = .ok (c, k)) : s.ctx c = some k := by
  unfold checkControl at h
  split at h
  · cases h
  · split at h
    · cases h
    · rename_i hk
      split_ifs at h
      cases h
      exact hk

theorem SameRun.withHeldSet (s : State) (l : List ContextId) : SameRun s { s with heldSet := l } :=
  ⟨rfl, rfl, rfl, rfl, rfl, rfl, rfl⟩

/-- An active context is set HELD and leaves the chain or the ready list (R78). -/
theorem PagesGuarded.holdContext {s : State} (h : PagesGuarded s) {c : ContextId} (hc : s.activeAt c) :
    PagesGuarded (s.holdContext c) := by
  obtain ⟨k, hk, hactive⟩ := hc
  have left : PagesGuarded ((s.modCtx c fun k => { k with state := .held, nested := false }).withdraw (· = c)) :=
    h.leave fun k' hk' => ⟨rfl, rfl, fun _ => by cases hk.symm.trans hk'; exact hactive⟩
  exact (left.of_sameRun (.withHeldSet _ _)).serviceIf _

theorem PagesGuarded.takeHold {s : State} (h : PagesGuarded s) (p : PortId) (slot : Byte) :
    PagesGuarded (takeHold p slot s) := by
  unfold Machine.takeHold
  split
  · exact h.refuse ..
  · rename_i c k hok
    have hk := checkControl_ok hok
    split
    · rename_i hstate
      exact (h.holdContext ⟨k, hk, by rw [hstate]; rfl⟩).answer ..
    · rename_i hstate
      split
      · exact (h.holdContext ⟨k, hk, by rw [hstate]; rfl⟩).answer ..
      · exact h.refuse ..
    all_goals exact h.refuse ..

/-- A HELD context enters the chain or the ready list again (R80). -/
theorem PagesGuarded.resumeContext {s : State} (h : PagesGuarded s) {c : ContextId} (hc : s.activeAt c) :
    PagesGuarded (s.resumeContext c) := by
  have resumed (st : ContextState) (hst : st.isActive = true) :
      PagesGuarded (s.modCtx c fun k => k.withState st) := by
    obtain ⟨k, hk, hactive⟩ := hc
    refine h.modCtx_same fun k' hk' => ⟨rfl, rfl, ?_⟩
    cases hk.symm.trans hk'
    exact hst.trans hactive.symm
  have active (st : ContextState) (hst : st.isActive = true) {d : ContextId}
      (hd : d = c ∨ d ∈ s.chain ∨ d ∈ s.ready) : (s.modCtx c fun k => k.withState st).activeAt d := by
    refine State.activeAt_modCtx ?_ fun _ _ _ _ => hst
    rcases hd with rfl | hd
    · exact hc
    · exact h.members d hd
  unfold State.resumeContext
  dsimp only
  split
  · refine ⟨fun d hd => ?_, h.check, (resumed .running rfl).spans⟩
    have hd : d ∈ [c] ∨ d ∈ s.ready := hd
    exact active .running rfl (hd.imp List.mem_singleton.mp Or.inr)
  · refine ⟨fun d hd => ?_, h.check, (resumed .ready rfl).spans⟩
    have hd : d ∈ s.chain ∨ d ∈ insertByPriority s.priorityOf c s.ready := hd
    refine active .ready rfl ?_
    rcases hd with hd | hd
    · exact Or.inr (Or.inl hd)
    · exact (mem_insertByPriority hd).imp_right Or.inr

theorem PagesGuarded.takeResume {s : State} (h : PagesGuarded s) (p : PortId) (slot : Byte) :
    PagesGuarded (takeResume p slot s) := by
  unfold Machine.takeResume
  split
  · exact h.refuse ..
  · rename_i c k hok
    split
    · rename_i hheld
      exact (h.resumeContext ⟨k, checkControl_ok hok, by rw [hheld]; rfl⟩).answer ..
    · exact h.refuse ..

theorem PagesGuarded.takeAbort {s : State} (h : PagesGuarded s) (p : PortId) (slot : Byte) :
    PagesGuarded (takeAbort p slot s) := by
  unfold Machine.takeAbort
  split
  · exact h.refuse ..
  · split
    · exact (h.faultContext ..).answer ..
    · exact h.refuse ..

/-! ### START_CHECK and ABORT_CHECK -/

/-- A page in the span of an active context is in use (R145). -/
theorem State.pageInUse_of_span {s : State} (h : SpansProtected s) {c : ContextId} {k : Context}
    (hk : s.ctx c = some k) (hactive : k.state.isActive = true) {g : PhysicalPage}
    (hg : g ∈ s.span k.owner k.block) : s.pageInUse g = true := by
  obtain ⟨access, -⟩ := h c k hk hactive
  simp only [State.span, List.mem_map, List.mem_filter, List.mem_finRange, true_and] at hg
  obtain ⟨l, hreach, rfl⟩ := hg
  have permitted := List.all_eq_true.mp access l (List.mem_finRange l)
  have present : (s.entry k.owner l).access ≠ .absent := by
    intro habsent
    simp [hreach, habsent, Access.permitsRead, Access.permitsWrite] at permitted
  have mapped : s.mapsPage k.owner (s.entry k.owner l).page = true :=
    List.any_eq_true.mpr ⟨l, List.mem_finRange l, by simp [present]⟩
  exact List.any_eq_true.mpr ⟨k.owner, List.mem_finRange _, by simp [State.mapLocked_of_active hk hactive, mapped]⟩

theorem checkStart_none {p : PortId} {pages : PageSet} {s : State} (h : checkStart p pages s = none) :
    s.check.state ≠ .running ∧ ∀ g : PhysicalPage, pages.getLsbD g.val = true → s.pageInUse g = false := by
  unfold checkStart at h
  split_ifs at h with _ _ hbusy hused
  exact ⟨hbusy, by simpa using hused⟩

@[simp] theorem State.acceptCheck_chain (s : State) (p : PortId) (pages : PageSet) (q : StepRequest) :
    (s.acceptCheck p pages q).chain = s.chain := by unfold State.acceptCheck; rfl
@[simp] theorem State.acceptCheck_ready (s : State) (p : PortId) (pages : PageSet) (q : StepRequest) :
    (s.acceptCheck p pages q).ready = s.ready := by unfold State.acceptCheck; rfl
@[simp] theorem State.acceptCheck_maps (s : State) (p : PortId) (pages : PageSet) (q : StepRequest) :
    (s.acceptCheck p pages q).maps = s.maps := by unfold State.acceptCheck; rfl
@[simp] theorem State.acceptCheck_offline (s : State) (p : PortId) (pages : PageSet) (q : StepRequest) :
    (s.acceptCheck p pages q).offline = s.offline := by unfold State.acceptCheck; rfl
@[simp] theorem State.acceptCheck_check (s : State) (p : PortId) (pages : PageSet) (q : StepRequest) :
    (s.acceptCheck p pages q).check = acceptedRecord p pages q s.offline := by unfold State.acceptCheck; rfl
@[simp] theorem State.acceptCheck_ctx (s : State) (p : PortId) (pages : PageSet) (q : StepRequest) (c : ContextId) :
    (s.acceptCheck p pages q).ctx c = s.ctx c := by unfold State.acceptCheck State.ctx; rfl
@[simp] theorem State.acceptCheck_entry (s : State) (p : PortId) (pages : PageSet) (q : StepRequest) (x : PortId)
    (l : LogicalPage) : (s.acceptCheck p pages q).entry x l = s.entry x l := by
  unfold State.acceptCheck State.entry; rfl
@[simp] theorem State.acceptCheck_heldMark (s : State) (p : PortId) (pages : PageSet) (q : StepRequest)
    (g : PhysicalPage) :
    (s.acceptCheck p pages q).heldMark g = (s.heldMark g || pages.getLsbD g.val) := ofFn_get ..

theorem acceptedRecord_results (p : PortId) (pages : PageSet) (q : StepRequest) (offline : Bool) (g : PhysicalPage) :
    ((acceptedRecord p pages q offline).results[g]).isSome = pages.getLsbD g.val := by
  unfold acceptedRecord
  dsimp only
  rw [ofFn_get]
  cases pages.getLsbD g.val <;> rfl

theorem acceptedRecord_current (p : PortId) (pages : PageSet) (q : StepRequest) (offline : Bool) :
    (acceptedRecord p pages q offline).current = if offline then .none else .reference := rfl

/-- A check of pages that are not in use starts with no page marked, and marks no page of a span (R145, R146). -/
theorem PagesGuarded.acceptCheck {s : State} (h : PagesGuarded s) (p : PortId) {pages : PageSet} (q : StepRequest)
    (hidle : s.check.state ≠ .running)
    (hfree : ∀ g : PhysicalPage, pages.getLsbD g.val = true → s.pageInUse g = false) :
    MarksGuarded (s.acceptCheck p pages q) := by
  have unmarked (g : PhysicalPage) : s.heldMark g = false := by
    rw [h.check.marksMatch.marks g, decide_eq_false hidle]
    rfl
  have mark (g : PhysicalPage) : (s.acceptCheck p pages q).heldMark g = pages.getLsbD g.val := by simp [unmarked]
  have notTesting {x : CurrentTest} (hx : (s.acceptCheck p pages q).check.current = x) :
      x = .none ∨ x = .reference := by
    rw [State.acceptCheck_check, acceptedRecord_current] at hx
    split at hx <;> simp [← hx]
  refine ⟨h.members.congr (by simp) (by simp) (by simp), ⟨fun g => ?_, fun g => ?_, fun g hg => ?_, fun a b hab => ?_⟩,
    fun c k hk hactive => ?_⟩
  · rw [mark, State.acceptCheck_check]
    rfl
  · rw [State.acceptCheck_check]
    exact acceptedRecord_results ..
  · exact absurd (notTesting hg) (by simp)
  · exact absurd (notTesting hab) (by simp)
  · rw [State.acceptCheck_ctx] at hk
    have used := fun g => State.pageInUse_of_span h.spans hk hactive (g := g)
    obtain ⟨access, -⟩ := h.spans c k hk hactive
    rw [State.accessGiven_congr (s := s) (by simp), State.span_congr (s := s) (by simp)]
    refine ⟨access, fun g hg => ?_⟩
    rw [mark g]
    by_contra hne
    have free := hfree g (by simpa using hne)
    rw [used g hg] at free
    cases free

theorem PagesGuarded.takeStartCheck {s : State} (h : PagesGuarded s) (p : PortId) (pages : PageSet)
    (q : StepRequest) : PagesGuarded (takeStartCheck p pages q s) := by
  unfold Machine.takeStartCheck
  split
  · exact h.refuse ..
  · rename_i hnone
    obtain ⟨hidle, hfree⟩ := checkStart_none hnone
    have accepted := h.acceptCheck p q hidle hfree
    refine PagesGuarded.answer ?_ ..
    split
    · exact accepted.endCheck
    · rename_i hworking
      have working : s.offline = false := by simpa using hworking
      refine ⟨accepted.members, accepted.marks.checkHolds fun _ => ⟨by simpa using working, ?_, ?_⟩, accepted.spans⟩
      · rw [State.acceptCheck_check]
        rfl
      · rw [State.acceptCheck_check, acceptedRecord_current, working]
        nofun

theorem PagesGuarded.takeAbortCheck {s : State} (h : PagesGuarded s) (p : PortId) :
    PagesGuarded (takeAbortCheck p s) := by
  unfold Machine.takeAbortCheck
  split
  · exact h.refuse ..
  · have zeroed := h.marksGuarded.of_sameRun (.zeroUnderTest s)
    have aborted : MarksGuarded (s.zeroUnderTest.modCheck fun r => { r with omitted := r.notBegun, aborted := true }) :=
      ⟨zeroed.members, ⟨zeroed.marks.marks, zeroed.marks.results, zeroed.marks.page, zeroed.marks.pair⟩, zeroed.spans⟩
    exact aborted.endCheck.answer ..

/-! ### PORT_RESET -/

/-- What of a port's reset its contexts, chain and ready list see: the port's contexts leave and are freed. -/
def State.freedOf (s : State) (q : PortId) : State := (s.withdraw (s.activeOwnedBy q)).freeSlots (s.ownedBy q)

theorem State.resetPort_contexts (s : State) (p q : PortId) : (s.resetPort p q).contexts = (s.freedOf q).contexts := by
  simp only [State.resetPort, State.freedOf]

theorem State.resetPort_ctx (s : State) (p q : PortId) (c : ContextId) :
    (s.resetPort p q).ctx c = (s.freedOf q).ctx c := by
  simp only [State.ctx, State.resetPort_contexts]

theorem State.resetPort_chain (s : State) (p q : PortId) : (s.resetPort p q).chain = (s.freedOf q).chain := by
  simp only [State.resetPort, State.freedOf]

theorem State.resetPort_ready (s : State) (p q : PortId) : (s.resetPort p q).ready = (s.freedOf q).ready := by
  simp only [State.resetPort, State.freedOf]

theorem State.resetPort_check (s : State) (p q : PortId) : (s.resetPort p q).check = (s.freedOf q).check := by
  simp only [State.resetPort, State.freedOf]

theorem State.resetPort_offline (s : State) (p q : PortId) : (s.resetPort p q).offline = (s.freedOf q).offline := by
  simp only [State.resetPort, State.freedOf]

theorem State.resetPort_heldMark (s : State) (p q : PortId) (g : PhysicalPage) :
    (s.resetPort p q).heldMark g = (s.freedOf q).heldMark g := by
  simp only [State.resetPort, State.freedOf, State.heldMark]

theorem State.resetPort_maps (s : State) (p q : PortId) : (s.resetPort p q).maps = update s.maps q absentMap := by
  unfold State.resetPort
  simp

theorem State.freedOf_maps (s : State) (q : PortId) : (s.freedOf q).maps = s.maps := by
  unfold State.freedOf
  simp

/-- The contexts left after a port's reset have other owners (R173). -/
theorem State.freedOf_owner {s : State} {q : PortId} {c : ContextId} {k : Context}
    (hk : (s.freedOf q).ctx c = some k) : k.owner ≠ q := by
  unfold State.freedOf at hk
  rw [State.freeSlots_ctx] at hk
  split at hk
  · cases hk
  · rename_i hother
    rintro rfl
    refine hother ?_
    unfold State.ownedBy
    rcases s.withdraw_ctx (s.activeOwnedBy k.owner) c with hw | hw <;> rw [hw] at hk
    · simp [hk]
    · obtain ⟨k₀, hk₀, hrun⟩ := Option.map_eq_some_iff.mp hk
      simp [hk₀, ← hrun, Context.withState]

theorem PagesGuarded.freedOf {s : State} (h : PagesGuarded s) (q : PortId) : PagesGuarded (s.freedOf q) := by
  have stayers : StayersActive s (s.activeOwnedBy q) := fun c hc _ => h.members c hc
  have left : PagesGuarded (s.withdraw (s.activeOwnedBy q)) :=
    ⟨State.withdraw_membersActive stayers, h.check.withdraw _, State.withdraw_spansProtected stayers h.spans⟩
  refine left.freeSlots fun c hc => ?_
  obtain ⟨hmem, hstays⟩ := State.mem_withdraw hc
  obtain ⟨k, hk, hactive⟩ := h.members c hmem
  simpa [State.activeOwnedBy, State.ownedBy, hk, hactive] using hstays

theorem PagesGuarded.resetPort {s : State} (h : PagesGuarded s) (p q : PortId) : PagesGuarded (s.resetPort p q) := by
  have freed := h.freedOf q
  refine ⟨freed.members.congr (s.resetPort_chain p q) (s.resetPort_ready p q) (s.resetPort_ctx p q), ?_,
    freed.spans.mono (fun c k hk _ => ?_) fun g hg => by rwa [State.resetPort_heldMark]⟩
  · unfold CheckHolds
    simp only [State.resetPort_heldMark, State.resetPort_check, State.resetPort_offline]
    exact freed.check
  · rw [State.resetPort_ctx] at hk
    refine ⟨hk, fun l => ?_⟩
    unfold State.entry
    rw [State.resetPort_maps, State.freedOf_maps, update_get_other _ (State.freedOf_owner hk)]

theorem PagesGuarded.takePortReset {s : State} (h : PagesGuarded s) (p : PortId) (target : Byte) :
    PagesGuarded (takePortReset p target s) := by
  unfold Machine.takePortReset
  split
  · exact h.refuse ..
  · exact ((h.resetPort ..).answer ..).serviceIf _

theorem PagesGuarded.takeDeviceRestart {s : State} (h : PagesGuarded s) (p : PortId) :
    PagesGuarded (takeDeviceRestart p s) := by
  unfold Machine.takeDeviceRestart
  split
  · exact h.refuse ..
  · exact (PagesGuarded.restart s p).answer ..

/-! ### Every command, every step -/

theorem PagesGuarded.runCommand {s : State} (h : PagesGuarded s) (i : Instr) : PagesGuarded (runCommand i s) := by
  cases i with
  | portReset p target => exact h.takePortReset p target
  | deviceRestart p => exact h.takeDeviceRestart p
  | writeMap p entries => exact h.takeWriteMap p entries
  | clearFaults p pages kinds clearOffline => exact h.takeClearFaults p pages kinds clearOffline
  | defineContext p slot block => exact h.takeDefineContext p slot block
  | setParams p slot block => exact h.takeSetParams p slot block
  | clearContext p slot => exact h.takeClearContext p slot
  | freeContext p slot => exact h.takeFreeContext p slot
  | writeGate p gate present fields => exact h.takeWriteGate p gate present fields
  | invoke p gate => exact h.takeInvoke p gate
  | hold p slot => exact h.takeHold p slot
  | resume p slot => exact h.takeResume p slot
  | abort p slot => exact h.takeAbort p slot
  | startCheck p pages request => exact h.takeStartCheck p pages request
  | abortCheck p => exact h.takeAbortCheck p
  | _ => exact h.of_sameRun (runCommand_sameRun _ s rfl)

theorem PagesGuarded.step {s t : State} (h : PagesGuarded s) (hstep : step s = .next t) : PagesGuarded t := by
  cases step_effect hstep with
  | quiet hsame => exact h.of_sameRun hsame
  | command i hsame => exact (h.of_sameRun hsame).runCommand i
  | service hsame => exact (h.of_sameRun hsame).servicePass
  | element f hsame => exact (h.of_sameRun hsame).elementStep f
  | reference o hsame => exact (h.of_sameRun hsame).completeReference o
  | page o hsame => exact (h.of_sameRun hsame).completePage o
  | pair o hsame => exact (h.of_sameRun hsame).completePair o
  | start straps ph => exact .start _ straps ph

/-- Settles O57: the invariant `PagesGuarded`, of which the run structure gives the part about collections, is kept by
each effect that a step can have. -/
theorem stepsKeepTestedPagesOutOfSpans : Obligations.StepsKeepTestedPagesOutOfSpans := by
  intro s t hrun hcheck hspans hstep
  obtain ⟨-, check, spans⟩ := PagesGuarded.step ⟨hrun.membersActive, hcheck, hspans⟩ hstep
  exact ⟨check, spans⟩

end Sys2Proof.Machine
end

section
/-! PROOFS. The map lock (R9, R42): the maps change at WRITE_MAP, which a locked port's map refuses, and at the
resets, which leave the port no context. -/

namespace Sys2Proof.Machine

/-! ### What leaves the maps as they are -/

@[simp] theorem State.endCheck_maps (s : State) : s.endCheck.maps = s.maps := by
  simp [State.endCheck, State.closeCheck]

@[simp] theorem State.takePair_maps (s : State) (next : Option (PhysicalPage × PhysicalPage)) :
    (s.takePair next).maps = s.maps := by
  unfold State.takePair
  split <;> simp

@[simp] theorem State.afterPattern_maps (s : State) : s.afterPattern.maps = s.maps := by
  unfold State.afterPattern State.beginDecode
  split <;> simp

@[simp] theorem State.nextPageTest_maps (s : State) : s.nextPageTest.maps = s.maps := by
  unfold State.nextPageTest
  split <;> simp

@[simp] theorem State.afterReference_maps (s : State) : s.afterReference.maps = s.maps := by
  unfold State.afterReference
  split <;> simp

theorem State.completeReference_maps (s : State) (o : TestOutcome) : (s.completeReference o).maps = s.maps := by
  unfold State.completeReference
  split
  · simp [State.referencePassed]
  · simp [State.referenceFailed]
  · rfl

theorem State.completePage_maps (s : State) (o : TestOutcome) : (s.completePage o).maps = s.maps := by
  unfold State.completePage
  split
  · cases o <;> simp [State.judgePage]
  · rfl

theorem State.completePair_maps (s : State) (o : TestOutcome) : (s.completePair o).maps = s.maps := by
  unfold State.completePair
  split
  · cases o <;> simp [State.judgePair, State.nextPair]
  · rfl

theorem State.stepContext_maps (s : State) (c : ContextId) (k : Context) (f : Option Nat) :
    (s.stepContext c k f).maps = s.maps := by
  unfold State.stepContext
  split
  · simp
  · split
    · simp
    · split
      · simp
      · unfold State.finishStep
        dsimp only
        split <;> simp [State.writeResults]

theorem State.elementStep_maps (s : State) (f : Option Nat) : (s.elementStep f).maps = s.maps := by
  unfold State.elementStep
  split
  · rfl
  · split
    · rfl
    · exact State.stepContext_maps ..

/-- The commands that write a map, beside those that reset one. -/
def writesMaps : Instr → Bool
  | .portReset .. | .deviceRestart .. | .writeMap .. => true
  | _ => false

theorem runCommand_maps {i : Instr} (h : writesMaps i = false) (s : State) : (runCommand i s).maps = s.maps := by
  cases i with
  | portReset | deviceRestart | writeMap => cases h
  | clearFaults p pages kinds clearOffline =>
    show (takeClearFaults ..).maps = _
    unfold takeClearFaults
    split <;> simp
  | defineContext p slot block =>
    show (takeDefineContext ..).maps = _
    unfold takeDefineContext
    split <;> simp
  | setParams p slot block =>
    show (takeSetParams ..).maps = _
    unfold takeSetParams
    split <;> simp
  | clearContext p slot =>
    show (takeClearContext ..).maps = _
    unfold takeClearContext
    split <;> simp
  | freeContext p slot =>
    show (takeFreeContext ..).maps = _
    unfold takeFreeContext
    split <;> simp
  | writeGate p gate present fields =>
    show (takeWriteGate ..).maps = _
    unfold takeWriteGate
    split <;> simp
  | invoke p gate =>
    show (takeInvoke ..).maps = _
    unfold takeInvoke
    split <;> simp
  | hold p slot =>
    have held (c : ContextId) : (s.holdContext c).maps = s.maps := by simp [State.holdContext]
    show (takeHold ..).maps = _
    unfold takeHold
    split
    · rfl
    · split
      · simp [held]
      · split <;> simp [held]
      all_goals rfl
  | resume p slot =>
    have resumed (c : ContextId) : (s.resumeContext c).maps = s.maps := by
      unfold State.resumeContext
      dsimp only
      split <;> rfl
    show (takeResume ..).maps = _
    unfold takeResume
    split
    · rfl
    · split <;> simp [resumed]
  | abort p slot =>
    show (takeAbort ..).maps = _
    unfold takeAbort
    split
    · rfl
    · split <;> simp
  | startCheck p pages request =>
    show (takeStartCheck ..).maps = _
    unfold takeStartCheck
    split
    · rfl
    · dsimp only
      split <;> simp
  | abortCheck p =>
    show (takeAbortCheck ..).maps = _
    unfold takeAbortCheck
    split
    · rfl
    · simp [State.abortCheck, (SameRun.zeroUnderTest s).maps]
  | _ => exact (runCommand_sameRun _ s rfl).maps

/-! ### A port without contexts -/

/-- No context is owned by a port. -/
def NoneOwned (q : PortId) (s : State) : Prop := ∀ c k, s.ctx c = some k → k.owner ≠ q

theorem NoneOwned.unlocked {q : PortId} {s : State} (h : NoneOwned q s) : s.mapLocked q ≠ true := by
  intro hlocked
  obtain ⟨c, k, hk, howner, -⟩ := (s.mapLocked_iff q).mp hlocked
  exact h c k hk howner

theorem NoneOwned.of_sameRun {q : PortId} {s t : State} (hst : SameRun s t) (h : NoneOwned q s) : NoneOwned q t :=
  fun c k hk => h c k ((hst.ctx c).symm.trans hk)

theorem NoneOwned.modCtx {q : PortId} {s : State} (h : NoneOwned q s) (c : ContextId) {f : Context → Context}
    (hf : ∀ k, (f k).owner = k.owner) : NoneOwned q (s.modCtx c f) := by
  intro d k hk
  rw [State.modCtx_ctx] at hk
  split at hk
  · obtain ⟨k₀, hk₀, rfl⟩ := Option.map_eq_some_iff.mp hk
    rw [hf]
    exact h c k₀ hk₀
  · exact h d k hk

theorem NoneOwned.accept {q : PortId} {s : State} (h : NoneOwned q s) (c : ContextId) (kind : GateKind)
    (who : Starter) : NoneOwned q (s.accept c kind who) := by
  have accepted {u : State} (hu : NoneOwned q u) (st : ContextState) (nested : Bool) :
      NoneOwned q (u.modCtx c fun k => k.accepted who st nested) := hu.modCtx c fun _ => rfl
  unfold State.accept
  split
  · exact accepted h .running false
  · split
    · exact accepted h .ready false
    · rename_i runner _ _ _
      exact accepted (h.modCtx runner (f := fun k => k.withState .preempted) fun _ => rfl) .running true

/-- A service pass starts contexts of their own owners: it gives a port none. -/
theorem NoneOwned.servicePass {q : PortId} {s : State} (h : NoneOwned q s) : NoneOwned q s.servicePass := by
  refine servicePass_invariant (fun u l hu => ?_) h
  unfold State.serveLine
  split
  · rename_i g _
    exact (hu.accept g.context g.kind (.line l)).of_sameRun (.modLine ..)
  · split
    · exact hu.of_sameRun (.modLine ..)
    · exact hu.of_sameRun ((SameRun.modLine ..).trans (.raiseAt ..))

theorem NoneOwned.serviceIf {q : PortId} {s : State} (h : NoneOwned q s) (b : Bool) : NoneOwned q (s.serviceIf b) := by
  unfold State.serviceIf
  split
  · exact h.servicePass
  · exact h

theorem NoneOwned.clearBlocks (q : PortId) (s : State) : NoneOwned q s.clearBlocks := by
  intro c k hk
  have free : s.clearBlocks.ctx c = none := replicate_get ..
  rw [free] at hk
  cases hk

theorem NoneOwned.start (q : PortId) (s : State) (straps : Vector Level 4) (ph : Phase) :
    NoneOwned q (s.start straps ph) := NoneOwned.clearBlocks q s

/-! ### The maps of locked ports -/

/-- The map of a port locked before and after is the same (R9). -/
def MapsKept (s t : State) : Prop :=
  ∀ p, s.mapLocked p = true → t.mapLocked p = true → t.maps[p] = s.maps[p]

theorem MapsKept.of_maps {s t : State} (h : t.maps = s.maps) : MapsKept s t := fun _ _ _ => by rw [h]

theorem SameRun.mapLocked {s t : State} (h : SameRun s t) (p : PortId) : t.mapLocked p = s.mapLocked p := by
  unfold State.mapLocked
  congr 1
  funext c
  simp only [State.activeOwnedBy, h.ctx]

theorem MapsKept.of_sameRun {s u t : State} (hsu : SameRun s u) (h : MapsKept u t) : MapsKept s t := by
  intro p hs ht
  rw [h p ((hsu.mapLocked p).trans hs) ht, hsu.maps]

theorem takeWriteMap_mapsKept (p : PortId) (fs : List MapFields) (s : State) : MapsKept s (takeWriteMap p fs s) := by
  unfold takeWriteMap
  split
  · exact .of_maps rfl
  · rename_i es hok
    intro q hs _
    have other : q ≠ p := by
      rintro rfl
      rw [checkWriteMap_ok hok] at hs
      cases hs
    exact update_get_other _ other _

/-- The port reset owns no context afterwards; the other maps stand (R173). -/
theorem takePortReset_mapsKept (p : PortId) (target : Byte) (s : State) : MapsKept s (takePortReset p target s) := by
  unfold takePortReset
  split
  · exact .of_maps rfl
  · rename_i q _
    have reset : NoneOwned q (s.resetPort p q) := fun c k hk =>
      State.freedOf_owner ((State.resetPort_ctx ..).symm.trans hk)
    have after : NoneOwned q (((s.resetPort p q).answer p 0x03 .ok []).serviceIf (s.mapLocked q)) :=
      (reset.of_sameRun (.answer ..)).serviceIf _
    intro x _ ht
    have other : x ≠ q := by
      rintro rfl
      exact after.unlocked ht
    rw [State.serviceIf_maps, State.answer_maps, State.resetPort_maps, update_get_other _ other]

theorem takeDeviceRestart_mapsKept (p : PortId) (s : State) : MapsKept s (takeDeviceRestart p s) := by
  unfold takeDeviceRestart
  split
  · exact .of_maps rfl
  · have same : SameRun s.dropCheck.clearBlocks ((s.restart p).answer p 0x04 .ok []) :=
      ⟨rfl, rfl, rfl, rfl, rfl, rfl, rfl⟩
    intro x _ ht
    exact absurd ht ((NoneOwned.clearBlocks x _).of_sameRun same).unlocked

theorem runCommand_mapsKept (i : Instr) (s : State) : MapsKept s (runCommand i s) := by
  cases i with
  | portReset p target => exact takePortReset_mapsKept p target s
  | deviceRestart p => exact takeDeviceRestart_mapsKept p s
  | writeMap p entries => exact takeWriteMap_mapsKept p entries s
  | _ => exact .of_maps (runCommand_maps rfl s)

theorem step_mapsKept {s t : State} (h : step s = .next t) : MapsKept s t := by
  cases step_effect h with
  | quiet same => exact .of_maps same.maps
  | command i same => exact .of_sameRun same (runCommand_mapsKept i _)
  | service same => exact .of_sameRun same (.of_maps (State.servicePass_maps _))
  | element f same => exact .of_sameRun same (.of_maps (State.elementStep_maps ..))
  | reference o same => exact .of_sameRun same (.of_maps (State.completeReference_maps ..))
  | page o same => exact .of_sameRun same (.of_maps (State.completePage_maps ..))
  | pair o same => exact .of_sameRun same (.of_maps (State.completePair_maps ..))
  | start straps ph => exact fun p _ ht => absurd ht (NoneOwned.start p _ straps ph).unlocked

/-- Settles O60: of the effects a step can have, only WRITE_MAP, PORT_RESET and DEVICE_RESTART write maps, and each of
them leaves the map of a port locked before and after. -/
theorem mapIsLockedWhileContextsAreActive : Obligations.MapIsLockedWhileContextsAreActive :=
  fun _ _ p hstep hs ht => step_mapsKept hstep p hs ht

end Sys2Proof.Machine
end

section
/-! PROOFS. The map commands and the reads of the store (R8 to R11, R20), and CLEAR_FAULTS (R21). -/

namespace Sys2Proof.Machine

/-- A command taken at its port has the effect of its command. -/
theorem exec_of_takes {i : Instr} {p : PortId} (hp : i.commandPort = some p) {s : State} (h : s.takes p) :
    exec i s = .next (runCommand i s) := by
  rw [exec_command hp, takenAt_of_takes h]

/-! ### The list of WRITE_MAP -/

theorem parseAccess_eq_none {b : Byte} : parseAccess b = none ↔ ¬b.toNat < 3 := by
  unfold parseAccess
  split <;> simp_all
  omega

theorem parseAccess_eq_absent {b : Byte} : parseAccess b = some .absent ↔ b = 0 := by
  rw [← BitVec.toNat_inj]
  unfold parseAccess
  split <;> simp_all

/-- What a valid entry of the list says. -/
theorem parseMapFields_eq_some {f : MapFields} {l : LogicalPage} {e : MapEntry} :
    parseMapFields f = some (l, e) ↔
      f.logical.toNat = l.val ∧ f.physical.toNat = e.page.val ∧ parseAccess f.access = some e.access := by
  obtain ⟨g, a⟩ := e
  rw [← indexOf_eq_some, ← indexOf_eq_some]
  unfold parseMapFields
  split
  · rename_i hl hg ha
    simp [hl, hg, ha]
  · rename_i hnone
    simp only [reduceCtorEq, false_iff]
    rintro ⟨hl, hg, ha⟩
    exact hnone _ _ _ hl hg ha

theorem parseMapFields_isSome {f : MapFields} :
    (∃ e, parseMapFields f = some e) ↔ f.logical.toNat < 16 ∧ f.physical.toNat < 64 ∧ f.access.toNat < 3 := by
  constructor
  · rintro ⟨⟨l, e⟩, he⟩
    obtain ⟨hl, hg, ha⟩ := parseMapFields_eq_some.mp he
    refine ⟨hl ▸ l.isLt, hg ▸ e.page.isLt, ?_⟩
    by_contra hbad
    rw [parseAccess_eq_none.mpr hbad] at ha
    cases ha
  · rintro ⟨hl, hg, ha⟩
    obtain ⟨a, ha⟩ : ∃ a, parseAccess f.access = some a := by
      rw [← Option.isSome_iff_exists, Option.isSome_iff_ne_none]
      exact fun hnone => parseAccess_eq_none.mp hnone ha
    exact ⟨(⟨_, hl⟩, ⟨⟨_, hg⟩, a⟩), parseMapFields_eq_some.mpr ⟨rfl, rfl, ha⟩⟩

/-- A list read item by item: the results stand beside the items. -/
theorem mapM_eq_some_iff {α β : Type} (f : α → Option β) (l : List α) (r : List β) :
    l.mapM f = some r ↔ List.Forall₂ (fun a b => f a = some b) l r := by
  induction l generalizing r with
  | nil => cases r <;> simp
  | cons a rest ih =>
    cases r with
    | nil => cases hf : f a <;> cases hr : rest.mapM f <;> simp [List.mapM_cons, hf, hr]
    | cons b r =>
      cases hf : f a <;> cases hr : rest.mapM f <;> simp [List.mapM_cons, hf, hr, ← ih]

theorem exists_mapM_iff {α β : Type} (f : α → Option β) (l : List α) :
    (∃ r, l.mapM f = some r) ↔ ∀ a ∈ l, ∃ b, f a = some b := by
  induction l with
  | nil => simp
  | cons a rest ih =>
    rw [List.forall_mem_cons, ← ih]
    cases hf : f a <;> cases hr : rest.mapM f <;> simp [List.mapM_cons, hf, hr]

/-- The entries stand in the order of the fields they are read from. -/
def ParsesTo (fs : List MapFields) (es : List (LogicalPage × MapEntry)) : Prop :=
  List.Forall₂ (fun f e => parseMapFields f = some e) fs es

theorem ParsesTo.exists_entry {fs : List MapFields} {es : List (LogicalPage × MapEntry)} (h : ParsesTo fs es)
    {f : MapFields} (hf : f ∈ fs) : ∃ e ∈ es, parseMapFields f = some e := by
  induction h with
  | nil => cases hf
  | cons hfe _ ih =>
    rcases List.mem_cons.mp hf with rfl | hf
    · exact ⟨_, List.mem_cons_self, hfe⟩
    · obtain ⟨e, he, hfe⟩ := ih hf
      exact ⟨e, List.mem_cons_of_mem _ he, hfe⟩

theorem ParsesTo.exists_field {fs : List MapFields} {es : List (LogicalPage × MapEntry)} (h : ParsesTo fs es)
    {e : LogicalPage × MapEntry} (he : e ∈ es) : ∃ f ∈ fs, parseMapFields f = some e := by
  induction h with
  | nil => cases he
  | cons hfe _ ih =>
    rcases List.mem_cons.mp he with rfl | he
    · exact ⟨_, List.mem_cons_self, hfe⟩
    · obtain ⟨f, hf, hfe⟩ := ih he
      exact ⟨f, List.mem_cons_of_mem _ hf, hfe⟩

theorem ParsesTo.logical {fs : List MapFields} {es : List (LogicalPage × MapEntry)} (h : ParsesTo fs es) :
    (es.map Prod.fst).map Fin.val = (fs.map fun f => f.logical).map BitVec.toNat := by
  induction h with
  | nil => rfl
  | cons hfe _ ih =>
    obtain ⟨hl, -⟩ := parseMapFields_eq_some.mp hfe
    simpa [hl] using ih

/-- No logical page is named twice by the entries exactly where none is by the bytes. -/
theorem ParsesTo.nodup_iff {fs : List MapFields} {es : List (LogicalPage × MapEntry)} (h : ParsesTo fs es) :
    (es.map Prod.fst).Nodup ↔ (fs.map fun f => f.logical).Nodup := by
  rw [← List.nodup_map_iff Fin.val_injective, h.logical,
    List.nodup_map_iff fun _ _ => BitVec.eq_of_toNat_eq]

/-- Check 1 of R8 as the manual words it. -/
def ListValid (fs : List MapFields) : Prop :=
  1 ≤ fs.length ∧ fs.length ≤ 16 ∧ (fs.map fun f => f.logical).Nodup ∧
    ∀ f ∈ fs, f.logical.toNat < 16 ∧ f.physical.toNat < 64 ∧ f.access.toNat < 3

theorem parseMapList_eq_some {fs : List MapFields} {es : List (LogicalPage × MapEntry)} :
    parseMapList fs = some es ↔
      ParsesTo fs es ∧ 1 ≤ fs.length ∧ fs.length ≤ 16 ∧ (fs.map fun f => f.logical).Nodup := by
  unfold parseMapList
  constructor
  · intro h
    split at h
    · cases h
    · rename_i es' hes
      split_ifs at h with hok
      cases h
      have parses : ParsesTo fs es := (mapM_eq_some_iff ..).mp hes
      rw [parses.nodup_iff, ← List.Forall₂.length_eq parses] at hok
      exact ⟨parses, hok⟩
  · rintro ⟨parses, hok⟩
    have hes := (mapM_eq_some_iff ..).mpr parses
    rw [← parses.nodup_iff, List.Forall₂.length_eq parses] at hok
    simp [hes, hok]

theorem exists_parseMapList {fs : List MapFields} : (∃ es, parseMapList fs = some es) ↔ ListValid fs := by
  constructor
  · rintro ⟨es, hes⟩
    obtain ⟨parses, hlow, hhigh, hnodup⟩ := parseMapList_eq_some.mp hes
    refine ⟨hlow, hhigh, hnodup, fun f hf => ?_⟩
    obtain ⟨e, -, he⟩ := parses.exists_entry hf
    exact parseMapFields_isSome.mp ⟨e, he⟩
  · rintro ⟨hlow, hhigh, hnodup, hfields⟩
    obtain ⟨es, hes⟩ := (exists_mapM_iff ..).mpr fun f hf => parseMapFields_isSome.mpr (hfields f hf)
    exact ⟨es, parseMapList_eq_some.mpr ⟨(mapM_eq_some_iff ..).mp hes, hlow, hhigh, hnodup⟩⟩

/-! ### The entries written -/

/-- An entry that no item of the list names stands. -/
theorem writeEntries_get_other {es : List (LogicalPage × MapEntry)} {l : LogicalPage} (h : l ∉ es.map Prod.fst)
    (m : WindowMap) : (writeEntries m es)[l] = m[l] := by
  induction es generalizing m with
  | nil => rfl
  | cons e rest ih =>
    simp only [List.map_cons, List.mem_cons, not_or] at h
    obtain ⟨hne, hrest⟩ := h
    exact (ih hrest _).trans (update_get_other _ hne _)

/-- An entry named once is the one listed. -/
theorem writeEntries_get_mem {es : List (LogicalPage × MapEntry)} (h : (es.map Prod.fst).Nodup) {l : LogicalPage}
    {x : MapEntry} (hmem : (l, x) ∈ es) (m : WindowMap) : (writeEntries m es)[l] = x := by
  induction es generalizing m with
  | nil => cases hmem
  | cons e rest ih =>
    rw [List.map_cons, List.nodup_cons] at h
    obtain ⟨hfirst, hrest⟩ := h
    rcases List.mem_cons.mp hmem with rfl | hmem
    · exact (writeEntries_get_other hfirst _).trans (update_get_self ..)
    · exact ih hrest hmem _

/-- An entry other than ABSENT targets a page with a fault (check 3 of R8). -/
def TargetsFault (s : State) (fs : List MapFields) : Prop :=
  ∃ f ∈ fs, ∃ g, indexOf 64 f.physical = some g ∧ f.access ≠ 0 ∧ s.carriesFault g = true

theorem ParsesTo.targetsFault_iff {fs : List MapFields} {es : List (LogicalPage × MapEntry)} (h : ParsesTo fs es)
    (s : State) :
    es.any (fun e => e.2.access ≠ .absent && s.carriesFault e.2.page) = true ↔ TargetsFault s fs := by
  have same {f : MapFields} {e : LogicalPage × MapEntry} (hfe : parseMapFields f = some e) :
      indexOf 64 f.physical = some e.2.page ∧ (f.access ≠ 0 ↔ e.2.access ≠ .absent) := by
    obtain ⟨-, hg, ha⟩ := parseMapFields_eq_some.mp hfe
    refine ⟨indexOf_eq_some.mpr hg, ?_⟩
    rw [Ne, ← parseAccess_eq_absent, ha, Option.some_inj]
  simp only [List.any_eq_true, Bool.and_eq_true, decide_eq_true_eq]
  constructor
  · rintro ⟨e, he, haccess, hfault⟩
    obtain ⟨f, hf, hfe⟩ := h.exists_field he
    obtain ⟨hg, ha⟩ := same hfe
    exact ⟨f, hf, e.2.page, hg, ha.mpr haccess, hfault⟩
  · rintro ⟨f, hf, g, hg, haccess, hfault⟩
    obtain ⟨e, he, hfe⟩ := h.exists_entry hf
    obtain ⟨hg', ha⟩ := same hfe
    cases hg.symm.trans hg'
    exact ⟨e, he, ha.mp haccess, hfault⟩

/-- Settles O11: the list parses exactly where it is valid, and entries named once hold what is listed. -/
theorem writeMapWritesTheListedEntries : Obligations.WriteMapWritesTheListedEntries := by
  intro p fs s htakes
  have run : exec (.writeMap p fs) s = .next (takeWriteMap p fs s) := exec_of_takes rfl htakes
  have refused {st : Status} (h : checkWriteMap p fs s = .error st) :
      exec (.writeMap p fs) s = .next (s.answer p 0x10 st []) := by
    rw [run]
    unfold takeWriteMap
    rw [h]
    rfl
  have parsed (hvalid : ListValid fs) : ∃ es, parseMapList fs = some es ∧ ParsesTo fs es ∧ (es.map Prod.fst).Nodup := by
    obtain ⟨es, hes⟩ := exists_parseMapList.mpr hvalid
    obtain ⟨parses, -, -, hnodup⟩ := parseMapList_eq_some.mp hes
    exact ⟨es, hes, parses, parses.nodup_iff.mpr hnodup⟩
  refine ⟨fun hvalid => refused ?_, fun hvalid hlocked => refused ?_, fun hvalid hfree hfault => refused ?_,
    fun hvalid hfree hfault => ?_⟩
  · have none : parseMapList fs = none := by
      rw [Option.eq_none_iff_forall_ne_some]
      exact fun es hes => hvalid (exists_parseMapList.mp ⟨es, hes⟩)
    simp [checkWriteMap, none]
  · obtain ⟨es, hes, -⟩ := parsed hvalid
    simp [checkWriteMap, hes, hlocked]
  · obtain ⟨es, hes, parses, -⟩ := parsed hvalid
    have targets := (parses.targetsFault_iff s).mpr hfault
    simp only [checkWriteMap, hes, hfree, targets]
    rfl
  · obtain ⟨es, hes, parses, hnodup⟩ := parsed hvalid
    have targets := mt (parses.targetsFault_iff s).mp hfault
    have hok : checkWriteMap p fs s = .ok es := by
      simp only [checkWriteMap, hes, hfree, targets]
      rfl
    refine ⟨update s.maps p (writeEntries s.maps[p] es), ?_, fun q hq => update_get_other _ hq _, fun l hl => ?_,
      fun f hf l g a hlogical hphysical haccess => ?_⟩
    · rw [run]
      unfold takeWriteMap
      rw [hok]
    · rw [update_get_self]
      refine writeEntries_get_other ?_ _
      intro hmem
      obtain ⟨e, he, rfl⟩ := List.mem_map.mp hmem
      obtain ⟨f, hf, hfe⟩ := parses.exists_field he
      obtain ⟨hlogical, -⟩ := parseMapFields_eq_some.mp hfe
      exact hl f hf hlogical
    · rw [update_get_self]
      obtain ⟨e, he, hfe⟩ := parses.exists_entry hf
      have listed : parseMapFields f = some (l, ⟨g, a⟩) :=
        parseMapFields_eq_some.mpr ⟨hlogical, hphysical, haccess⟩
      cases hfe.symm.trans listed
      exact writeEntries_get_mem hnodup he _

/-! ### Reads of maps and page state -/

theorem flatMap_toList_eq_finRange {α β : Type} {n : Nat} (v : Vector α n) (f : α → List β) :
    v.toList.flatMap f = (List.finRange n).flatMap fun i => f v[i] := by
  have list : v.toList = (List.finRange n).map fun i => v[i] := by
    apply List.ext_getElem <;> simp
  rw [list, List.flatMap_map]

/-- The bits of the page state byte (11.2). -/
theorem State.pageStateByte_bits (s : State) (g : PhysicalPage) :
    (s.pageStateByte g).getLsbD 0 = (s.faultsOf g).pattern ∧ (s.pageStateByte g).getLsbD 1 = (s.faultsOf g).decode ∧
      (s.pageStateByte g).getLsbD 2 = (s.faultsOf g).word ∧ (s.pageStateByte g).getLsbD 7 = s.heldMark g ∧
      s.pageStateByte g &&& 0x78 = 0 := by
  unfold State.pageStateByte
  obtain ⟨a, b, c⟩ := s.faultsOf g
  cases a <;> cases b <;> cases c <;> cases s.heldMark g <;> decide

theorem readMap_returns (p : PortId) (target : Byte) (s : State) (h : s.takes p) :
    (3 < target.toNat → exec (.readMap p target) s = .next (s.answer p 0x11 .param [])) ∧
      ∀ q : PortId, target.toNat = q.val →
        exec (.readMap p target) s = .next (s.answer p 0x11 .ok
          ((List.finRange 16).flatMap fun l =>
            [byteOfNat (s.entry q l).page.val, accessByte (s.entry q l).access])) := by
  have run : exec (.readMap p target) s = .next (takeReadMap p target s) := exec_of_takes rfl h
  rw [run]
  unfold takeReadMap
  refine ⟨fun hbad => ?_, fun q hq => ?_⟩
  · rw [indexOf_eq_none.mpr hbad]
    rfl
  · rw [indexOf_eq_some.mpr hq]
    dsimp only
    rw [flatMap_toList_eq_finRange]
    rfl

theorem translate_returns (p : PortId) (page : Byte) (s : State) (h : s.takes p) :
    (15 < page.toNat → exec (.translate p page) s = .next (s.answer p 0x12 .param [])) ∧
      ∀ l : LogicalPage, page.toNat = l.val →
        exec (.translate p page) s = .next (s.answer p 0x12 .ok
          [byteOfNat (s.entry p l).page.val, accessByte (s.entry p l).access, s.pageStateByte (s.entry p l).page]) := by
  have run : exec (.translate p page) s = .next (takeTranslate p page s) := exec_of_takes rfl h
  rw [run]
  unfold takeTranslate
  refine ⟨fun hbad => ?_, fun l hl => ?_⟩
  · rw [indexOf_eq_none.mpr hbad]
    rfl
  · rw [indexOf_eq_some.mpr hl]
    rfl

/-- The bytes of READ_PAGE_FAULTS: one state byte for each page, then OFFLINE. -/
def State.pageFaultBytes (s : State) : List Byte := (List.finRange 64).map s.pageStateByte ++ [boolByte s.offline]

theorem State.pageFaultBytes_length (s : State) : s.pageFaultBytes.length = 65 := by simp [State.pageFaultBytes]

theorem State.pageFaultBytes_page (s : State) (g : PhysicalPage) :
    s.pageFaultBytes[g.val]? = some (s.pageStateByte g) := by
  simp [State.pageFaultBytes, List.getElem?_append]

theorem State.pageFaultBytes_offline (s : State) :
    s.pageFaultBytes[64]? = some (if s.offline then 0x01 else 0x00) := by
  simp [State.pageFaultBytes, boolByte]

/-- Settles O12: the three reads return the table entries and the page state byte. -/
theorem storeReadsReturnMapsAndPageState : Obligations.StoreReadsReturnMapsAndPageState := by
  refine ⟨readMap_returns, fun p page s h => ?_, fun p s h => ?_⟩
  · obtain ⟨refused, returned⟩ := translate_returns p page s h
    exact ⟨refused, fun l hl => ⟨_, returned l hl, s.pageStateByte_bits _⟩⟩
  · refine ⟨s.pageFaultBytes, exec_of_takes (i := .readPageFaults p) rfl h, s.pageFaultBytes_length, fun g => ?_,
      s.pageFaultBytes_offline⟩
    obtain ⟨pattern, decode, word, held, -⟩ := s.pageStateByte_bits g
    exact ⟨_, s.pageFaultBytes_page g, pattern, decode, word, held⟩

/-! ### CLEAR_FAULTS -/

/-- Whether CLEAR_FAULTS asks for anything (R21). -/
def asksToClear (pages : PageSet) (kinds : FaultSet) (clearOffline : Bool) : Bool :=
  (pages != 0 && faulty kinds) || clearOffline

theorem asksToClear_iff (pages : PageSet) (kinds : FaultSet) (clearOffline : Bool) :
    asksToClear pages kinds clearOffline = true ↔
      (pages ≠ 0 ∧ kinds ≠ ⟨false, false, false⟩) ∨ clearOffline = true := by
  have some_kind : faulty kinds = true ↔ kinds ≠ ⟨false, false, false⟩ := by
    obtain ⟨a, b, c⟩ := kinds
    cases a <;> cases b <;> cases c <;> decide
  simp [asksToClear, some_kind]

theorem checkClearFaults_eq (p : PortId) (pages : PageSet) (kinds : FaultSet) (clearOffline : Bool) (s : State) :
    checkClearFaults p pages kinds clearOffline s =
      if s.level p ≠ 0 then some .denied
      else if !asksToClear pages kinds clearOffline then some .param
      else if s.check.state = .running then some .busy
      else none := rfl

/-- Settles O17: the checks in the order of R21, and the fault sets page by page. -/
theorem clearFaultsRemovesTheNamedKinds : Obligations.ClearFaultsRemovesTheNamedKinds := by
  intro p pages kinds clearOffline s htakes run asked
  have hrun : run = .next (takeClearFaults p pages kinds clearOffline s) := exec_of_takes rfl htakes
  have refused {st : Status} (h : checkClearFaults p pages kinds clearOffline s = some st) :
      run = .next (s.answer p 0x16 st []) := by
    rw [hrun]
    unfold takeClearFaults
    rw [h]
    rfl
  have hasked := asksToClear_iff pages kinds clearOffline
  refine ⟨fun hlevel => refused ?_, fun hlevel hno => refused ?_, fun hlevel hyes hbusy => refused ?_,
    fun hlevel hyes hidle => ⟨(s.clearFaults pages kinds clearOffline).faults, ?_, fun g => ofFn_get ..⟩⟩
  · simp [checkClearFaults_eq, hlevel]
  · simp [checkClearFaults_eq, hlevel, Bool.eq_false_iff.mpr (mt hasked.mp hno)]
  · simp [checkClearFaults_eq, hlevel, hasked.mpr hyes, hbusy]
  · have hnone : checkClearFaults p pages kinds clearOffline s = none := by
      simp [checkClearFaults_eq, hlevel, hasked.mpr hyes, hidle]
    rw [hrun]
    unfold takeClearFaults
    rw [hnone]
    rfl

end Sys2Proof.Machine
end

section
/-! PROOFS. READ_WORDS and WRITE_WORDS: the six checks and the start of the data run (R12, R14, R187). -/

namespace Sys2Proof.Machine

/-- The j-th logical address of the run that the fields page and offset name (R13). -/
def runAddress (page offset : Byte) (j : Nat) : LogicalAddress := BitVec.ofNat 12 (page.toNat * 256 + offset.toNat + j)

/-- The run lies in the window (check 2 of R12). -/
def RunInWindow (page offset count : Byte) : Prop :=
  page.toNat ≤ 15 ∧ page.toNat * 256 + offset.toNat + count.toNat - 1 ≤ 4095

/-- Every address of the run has an entry whose access passes a test (check 4 of R12). -/
def State.runPermits (s : State) (p : PortId) (permits : Access → Bool) (page offset count : Byte) : Prop :=
  ∀ j < count.toNat, permits (s.entryFor p (runAddress page offset j)).access = true

/-- An address of the run reaches a page with a property (checks 5 and 6 of R12). -/
def State.runReaches (s : State) (p : PortId) (bad : PhysicalPage → Bool) (page offset count : Byte) : Prop :=
  ∃ j < count.toNat, bad (s.entryFor p (runAddress page offset j)).page = true

theorem runAddresses_eq (page offset : Byte) (count : Nat) :
    runAddresses (runAddress page offset 0) count = (List.range count).map (runAddress page offset) := by
  unfold runAddresses runAddress
  simp only [Nat.add_zero, BitVec.ofNat_add]

theorem runStart_eq (page offset count : Byte) :
    (RunInWindow page offset count → runStart page offset count = some (runAddress page offset 0)) ∧
      (¬RunInWindow page offset count → runStart page offset count = none) := by
  unfold runStart RunInWindow runAddress
  exact ⟨fun h => by rw [if_pos h, Nat.add_zero], fun h => by rw [if_neg h]⟩

/-- Whether an access suffices for a data command. -/
def permitsFor (writes : Bool) (a : Access) : Bool := if writes then a.permitsWrite else a.permitsRead

/-- Checks 2 to 6 of R12, each in the words of the manual. -/
theorem checkRun_outcomes (p : PortId) (writes : Bool) (page offset count : Byte) (s : State) :
    (¬RunInWindow page offset count → checkRun p writes page offset count s = .error .range) ∧
    (RunInWindow page offset count → s.offline = true → checkRun p writes page offset count s = .error .offline) ∧
    (RunInWindow page offset count → s.offline = false →
      (¬s.runPermits p (permitsFor writes) page offset count →
        checkRun p writes page offset count s = .error .mapAccess) ∧
      (s.runPermits p (permitsFor writes) page offset count → s.runReaches p s.carriesFault page offset count →
        checkRun p writes page offset count s = .error .pageFault) ∧
      (s.runPermits p (permitsFor writes) page offset count → ¬s.runReaches p s.carriesFault page offset count →
        s.runReaches p s.heldMark page offset count → checkRun p writes page offset count s = .error .pageHeld) ∧
      (s.runPermits p (permitsFor writes) page offset count → ¬s.runReaches p s.carriesFault page offset count →
        ¬s.runReaches p s.heldMark page offset count →
        checkRun p writes page offset count s = .ok (runAddress page offset 0))) := by
  obtain ⟨inside, outside⟩ := runStart_eq page offset count
  have access : (runAddresses (runAddress page offset 0) count.toNat).any (fun a =>
      !(if writes then (s.entryFor p a).access.permitsWrite else (s.entryFor p a).access.permitsRead)) = true ↔
      ¬s.runPermits p (permitsFor writes) page offset count := by
    rw [runAddresses_eq]
    simp [State.runPermits, permitsFor]
  have reached (bad : PhysicalPage → Bool) :
      (s.runPages p (runAddress page offset 0) count.toNat).any bad = true ↔
        s.runReaches p bad page offset count := by
    unfold State.runPages
    rw [runAddresses_eq]
    simp [State.runReaches]
  refine ⟨fun hout => ?_, fun hin hoff => ?_, fun hin hon => ⟨fun hno => ?_, fun hyes hfault => ?_,
    fun hyes hclean hheld => ?_, fun hyes hclean hfree => ?_⟩⟩
  · simp only [checkRun, outside hout]
  · simp [checkRun, inside hin, hoff]
  · simp only [checkRun, inside hin, hon, access.mpr hno]
    rfl
  · simp only [checkRun, inside hin, hon, access, reached, hyes, hfault]
    rfl
  · simp only [checkRun, inside hin, hon, access, reached, hyes, hclean, hheld]
    rfl
  · simp only [checkRun, inside hin, hon, access, reached, hyes, hclean, hfree]
    rfl

/-! ### The two commands -/

/-- A count of READ_WORDS is 1 to 62 (check 1 of R12). -/
def Counted (count : Byte) : Prop := 1 ≤ count.toNat ∧ count.toNat ≤ 62

theorem readWords_uncounted {p : PortId} {page offset count : Byte} {s : State} (h : ¬Counted count) :
    takeReadWords p page offset count s = s.answer p 0x13 .param [] := by
  unfold Counted at h
  unfold takeReadWords
  rw [if_pos (by omega)]
  rfl

theorem readWords_counted (p : PortId) (page offset : Byte) (s : State) {count : Byte} (h : Counted count) :
    (∀ st, checkRun p false page offset count s = .error st →
      takeReadWords p page offset count s = s.answer p 0x13 st []) ∧
    ∀ first, checkRun p false page offset count s = .ok first →
      takeReadWords p page offset count s =
        s.modPort p fun pt => { pt with run := some (.read first count.toNat []) } := by
  unfold Counted at h
  unfold takeReadWords
  rw [if_neg (by omega)]
  exact ⟨fun st hst => by rw [hst]; rfl, fun first hok => by rw [hok]⟩

theorem writeWords_uncounted {p : PortId} {page offset count : Byte} {words : List Word} {s : State}
    (h : ¬(Counted count ∧ words.length = count.toNat)) :
    takeWriteWords p page offset count words s = s.answer p 0x14 .param [] := by
  unfold Counted at h
  unfold takeWriteWords
  rw [if_pos (by omega)]
  rfl

theorem writeWords_counted (p : PortId) (page offset : Byte) (s : State) {count : Byte} {words : List Word}
    (h : Counted count) (hwords : words.length = count.toNat) :
    (∀ st, checkRun p true page offset count s = .error st →
      takeWriteWords p page offset count words s = s.answer p 0x14 st []) ∧
    ∀ first, checkRun p true page offset count s = .ok first →
      takeWriteWords p page offset count words s =
        s.modPort p fun pt => { pt with run := some (.write first words 0) } := by
  unfold Counted at h
  unfold takeWriteWords
  rw [if_neg (by omega)]
  exact ⟨fun st hst => by rw [hst]; rfl, fun first hok => by rw [hok]⟩

theorem permitsRead_iff (a : Access) : permitsFor false a = true ↔ a ≠ .absent := by cases a <;> decide

theorem permitsWrite_iff (a : Access) : permitsFor true a = true ↔ a = .readWrite := by cases a <;> decide

/-- Settles O13: both commands follow the outcomes of `checkRun`. -/
theorem dataCommandsCheckThenStartTheRun : Obligations.DataCommandsCheckThenStartTheRun := by
  intro p page offset count words s htakes base reached inWindow counted faulty held readable writable refused
  have hread : exec (.readWords p page offset count) s = .next (takeReadWords p page offset count s) :=
    exec_of_takes rfl htakes
  have hwrite : exec (.writeWords p page offset count words) s = .next (takeWriteWords p page offset count words s) :=
    exec_of_takes rfl htakes
  have hreadable : readable ↔ s.runPermits p (permitsFor false) page offset count :=
    forall_congr' fun _ => imp_congr_right fun _ => (permitsRead_iff _).symm
  have hwritable : writable ↔ s.runPermits p (permitsFor true) page offset count :=
    forall_congr' fun _ => imp_congr_right fun _ => (permitsWrite_iff _).symm
  obtain ⟨rangeR, offlineR, restR⟩ := checkRun_outcomes p false page offset count s
  obtain ⟨rangeW, offlineW, restW⟩ := checkRun_outcomes p true page offset count s
  rw [hread, hwrite, hreadable, hwritable]
  refine ⟨fun hno => ?_, fun hcount hout => ?_, fun hcount hin hoff => ?_, fun hcount hin hon => ?_, fun hno => ?_,
    fun hcount hwords => ?_⟩
  · rw [readWords_uncounted hno]
  · obtain ⟨refuse, -⟩ := readWords_counted p page offset s hcount
    rw [refuse _ (rangeR hout)]
  · obtain ⟨refuse, -⟩ := readWords_counted p page offset s hcount
    rw [refuse _ (offlineR hin hoff)]
  · obtain ⟨refuse, start⟩ := readWords_counted p page offset s hcount
    obtain ⟨access, fault, mark, pass⟩ := restR hin hon
    exact ⟨fun hno => by rw [refuse _ (access hno)], fun hyes hf => by rw [refuse _ (fault hyes hf)],
      fun hyes hf hh => by rw [refuse _ (mark hyes hf hh)], fun hyes hf hh => by rw [start _ (pass hyes hf hh)]; rfl⟩
  · rw [writeWords_uncounted hno]
  · obtain ⟨refuse, start⟩ := writeWords_counted p page offset s hcount hwords
    refine ⟨fun hout => by rw [refuse _ (rangeW hout)], fun hin hoff => by rw [refuse _ (offlineW hin hoff)],
      fun hin hon => ?_⟩
    obtain ⟨access, fault, mark, pass⟩ := restW hin hon
    exact ⟨fun hno => by rw [refuse _ (access hno)], fun hyes hf => by rw [refuse _ (fault hyes hf)],
      fun hyes hf hh => by rw [refuse _ (mark hyes hf hh)], fun hyes hf hh => by rw [start _ (pass hyes hf hh)]; rfl⟩

end Sys2Proof.Machine
end

section
/-! PROOFS. The word accesses of a data run (R13, R14, R17, R18), and the frame kept while one is in progress (R14,
R166). -/

namespace Sys2Proof.Machine

/-! ### One word access, case by case -/

theorem exec_wordAccess {s : State} (h : s.phase = .operating) (p : PortId) (fails : Bool) :
    exec (.dataRunWordAccess p fails) s = .next (s.accessWord p fails) :=
  whenOperating_of_operating h fun s => s.accessWord p fails

theorem State.accessWord_read {s : State} {p : PortId} {a : LogicalAddress} {left : Nat} {got : List Word}
    (h : (s.port p).run = some (.read a left got)) (fails : Bool) :
    s.accessWord p fails = s.accessRead p fails a left got := by
  simp only [State.accessWord, h]

theorem State.accessWord_write {s : State} {p : PortId} {a : LogicalAddress} {rest : List Word} {written : Nat}
    (h : (s.port p).run = some (.write a rest written)) (fails : Bool) :
    s.accessWord p fails = s.accessWrite p a rest written := by
  simp only [State.accessWord, h]

section
variable {s : State} {p : PortId} {a : LogicalAddress}

theorem State.accessRead_refused {st : Status} (h : s.pageRefusal (s.entryFor p a).page = some st) (fails : Bool)
    (left : Nat) (got : List Word) : s.accessRead p fails a left got = s.endRun p 0x13 st [] := by
  simp only [State.accessRead, h]

theorem State.accessRead_fails (h : s.pageRefusal (s.entryFor p a).page = none) (left : Nat) (got : List Word) :
    s.accessRead p true a left got =
      (s.wordCheckFailure (s.entryFor p a).page).endRun p 0x13 .wordFault (addressBytes a) := by
  simp only [State.accessRead, h, if_true]

theorem State.accessRead_last (h : s.pageRefusal (s.entryFor p a).page = none) {left : Nat} (hleft : left ≤ 1)
    (got : List Word) :
    s.accessRead p false a left got =
      s.endRun p 0x13 .ok ((got ++ [s.words.read (s.physical p a)]).flatMap bytes32) := by
  simp [State.accessRead, h, hleft]

theorem State.accessRead_next (h : s.pageRefusal (s.entryFor p a).page = none) {left : Nat} (hleft : 1 < left)
    (got : List Word) :
    s.accessRead p false a left got =
      s.continueRun p (.read (a + 1) (left - 1) (got ++ [s.words.read (s.physical p a)])) := by
  simp [State.accessRead, h, Nat.not_le.mpr hleft]

theorem State.accessWrite_refused {st : Status} (h : s.pageRefusal (s.entryFor p a).page = some st) (w : Word)
    (later : List Word) (written : Nat) :
    s.accessWrite p a (w :: later) written = s.endRun p 0x14 st [byteOfNat written] := by
  simp only [State.accessWrite, h]

/-- The state with one word of the store replaced. -/
def State.stored (s : State) (p : PortId) (a : LogicalAddress) (w : Word) : State :=
  { s with words := s.words.write (s.physical p a) w }

theorem State.accessWrite_last (h : s.pageRefusal (s.entryFor p a).page = none) (w : Word) (written : Nat) :
    s.accessWrite p a [w] written = (s.stored p a w).endRun p 0x14 .ok [byteOfNat (written + 1)] := by
  simp only [State.accessWrite, h]
  rfl

theorem State.accessWrite_next (h : s.pageRefusal (s.entryFor p a).page = none) (w : Word) {later : List Word}
    (hlater : later ≠ []) (written : Nat) :
    s.accessWrite p a (w :: later) written = (s.stored p a w).continueRun p (.write (a + 1) later (written + 1)) := by
  simp only [State.accessWrite, h, hlater, if_false]
  rfl

end

/-! ### The end of a run -/

/-- The state that the end of a run leaves before the kept frame is taken: no run, the response pending (R14). -/
def State.runEnded (s : State) (p : PortId) (code : Byte) (st : Status) (rs : List Byte) : State :=
  (s.modPort p fun pt => { pt with run := none }).answer p code st rs

theorem State.endRun_eq (s : State) (p : PortId) (code : Byte) (st : Status) (rs : List Byte) :
    s.endRun p code st rs = (s.runEnded p code st rs).takeKept p := rfl

theorem State.runEnded_port (s : State) (p : PortId) (code : Byte) (st : Status) (rs : List Byte) :
    (s.runEnded p code st rs).port p = ({ s.port p with run := none } : Port).respond ⟨code, st, rs⟩ := by
  simp [State.runEnded, State.answer_port]

/-- With no kept frame the end of a run is its answer. -/
theorem State.endRun_of_unkept {s : State} {p : PortId} (h : (s.port p).kept = none) (code : Byte) (st : Status)
    (rs : List Byte) : s.endRun p code st rs = s.runEnded p code st rs := by
  have unkept : ((s.runEnded p code st rs).port p).kept = none := by
    rw [State.runEnded_port]
    exact h
  rw [State.endRun_eq, State.takeKept]
  simp only [unkept]

/-- With a kept frame it is the taking of that frame in the state the answer leaves. -/
theorem State.endRun_of_kept {s : State} {p : PortId} {frame : List Byte} (h : (s.port p).kept = some frame)
    (code : Byte) (st : Status) (rs : List Byte) :
    s.endRun p code st rs =
      takeFrame p frame ((s.runEnded p code st rs).modPort p fun pt => { pt with kept := none }) := by
  have kept : ((s.runEnded p code st rs).port p).kept = some frame := by
    rw [State.runEnded_port]
    exact h
  rw [State.endRun_eq, State.takeKept]
  simp only [kept]

/-- Settles O14: the outcomes of a word access at a page that passes its test. -/
theorem dataRunAccessesOneWord : Obligations.DataRunAccessesOneWord := by
  intro p s a hphase hcanonical hpage
  refine ⟨fun left got hrun => ⟨fun hleft => ?_, fun hleft hkept => ?_⟩, fun w later written fails hrun =>
    ⟨(s.stored p a w).words, fun b => Memory.read_write hcanonical .., fun hlater => ?_, fun hlater hkept => ?_⟩⟩
  · rw [exec_wordAccess hphase, State.accessWord_read hrun, State.accessRead_next hpage hleft]
    rfl
  · rw [exec_wordAccess hphase, State.accessWord_read hrun, State.accessRead_last hpage hleft,
      State.endRun_of_unkept hkept]
    rfl
  · rw [exec_wordAccess hphase, State.accessWord_write hrun, State.accessWrite_next hpage w hlater]
    rfl
  · subst hlater
    have unkept : ((s.stored p a w).port p).kept = none := hkept
    rw [exec_wordAccess hphase, State.accessWord_write hrun, State.accessWrite_last hpage,
      State.endRun_of_unkept unkept]
    rfl

/-! ### Runs cut short -/

theorem State.wordCheckFailure_eq (s : State) (g : PhysicalPage) :
    s.wordCheckFailure g =
      { s with faults := (s.wordCheckFailure g).faults, events := (s.wordCheckFailure g).events } := by
  unfold State.wordCheckFailure
  split <;> rfl

/-- The page gains WORD; the fault sets of the others stand (R17). -/
theorem State.wordCheckFailure_faultsOf (s : State) (page g : PhysicalPage) :
    (s.wordCheckFailure page).faultsOf g = if g = page then { s.faultsOf g with word := true } else s.faultsOf g := by
  unfold State.wordCheckFailure
  split
  · rename_i hword
    split
    · rename_i hg
      rw [hg, ← hword]
    · rfl
  · rw [State.raiseAt_faultsOf, State.modFaults_faultsOf]
    split
    · rename_i hg
      rw [hg]
    · rfl

theorem State.mapsPage_iff (s : State) (q : PortId) (g : PhysicalPage) :
    s.mapsPage q g = true ↔ ∃ l, (s.entry q l).page = g ∧ (s.entry q l).access ≠ .absent := by
  simp [State.mapsPage]

/-- PAGE is raised at the ports that map the page, where it did not hold WORD (R17). -/
theorem State.wordCheckFailure_eventsAt (s : State) (page : PhysicalPage) (q : PortId) :
    (s.wordCheckFailure page).eventsAt q =
      if (s.faultsOf page).word = false ∧ s.mapsPage q page = true then (s.eventsAt q).raise flagPage
      else s.eventsAt q := by
  unfold State.wordCheckFailure
  split
  · rename_i hword
    simp [hword]
  · rename_i hword
    rw [State.raiseAt_eventsAt]
    simp only [Bool.not_eq_true] at hword
    simp [hword]

/-- Settles O15: the run ends with the status of the first failing test, and at a word that fails its check. -/
theorem dataRunsEndAtBadPagesAndWords : Obligations.DataRunsEndAtBadPagesAndWords := by
  constructor
  · intro p s a fails hphase hkept page refusal st hst
    refine ⟨fun left got hrun => ?_, fun w later written hrun => ?_⟩
    · rw [exec_wordAccess hphase, State.accessWord_read hrun, State.accessRead_refused hst,
        State.endRun_of_unkept hkept]
      rfl
    · rw [exec_wordAccess hphase, State.accessWord_write hrun, State.accessWrite_refused hst,
        State.endRun_of_unkept hkept]
      rfl
  · intro p s a left got hphase hrun hkept hpage page
    refine ⟨s.wordCheckFailure page, ?_, s.wordCheckFailure_eq page, s.wordCheckFailure_faultsOf page, fun q => ?_⟩
    · have unkept : ((s.wordCheckFailure page).port p).kept = none := by rw [State.wordCheckFailure_port, hkept]
      rw [exec_wordAccess hphase, State.accessWord_read hrun, State.accessRead_fails hpage,
        State.endRun_of_unkept unkept]
      rfl
    · rw [State.wordCheckFailure_eventsAt]
      simp only [State.mapsPage_iff]

/-! ### The kept frame -/

theorem State.modPort_congr (s : State) {p : PortId} {f g : Port → Port} (h : f (s.port p) = g (s.port p)) :
    s.modPort p f = s.modPort p g := by
  unfold State.modPort
  rw [h]

theorem State.modPort_id (s : State) {p : PortId} {f : Port → Port} (h : f (s.port p) = s.port p) :
    s.modPort p f = s := by
  unfold State.modPort
  rw [h]
  show { s with ports := update s.ports p s.ports[p] } = s
  rw [update_self]

/-- The state with a port's kept frame replaced. -/
def State.keeping (s : State) (p : PortId) (kept : Option (List Byte)) : State :=
  s.modPort p fun pt => { pt with kept := kept }

/-- A command that completes during its port's data run is kept, or discarded where one is kept (R14, R166). -/
theorem exec_during_run {p : PortId} {i : Instr} {s : State} {r : DataRun} (hp : i.commandPort = some p)
    (hphase : s.phase = .operating) (hrun : (s.port p).run = some r) :
    exec i s = .next (s.modPort p fun pt => pt.keep (encodeFrame i)) := by
  rw [exec_command hp, takenAt, whenOperating_of_operating hphase]
  simp only [hrun]

theorem State.keeping_self {s : State} {p : PortId} {kept : Option (List Byte)} (h : (s.port p).kept = kept) :
    s.keeping p kept = s := by
  subst h
  exact s.modPort_id rfl

theorem State.keeping_port_kept (s : State) (p : PortId) (kept : Option (List Byte)) :
    ((s.keeping p kept).port p).kept = kept := by simp [State.keeping]

theorem State.keeping_port_run (s : State) (p : PortId) (kept : Option (List Byte)) :
    ((s.keeping p kept).port p).run = (s.port p).run := by simp [State.keeping]

theorem State.keeping_wordCheckFailure (s : State) (p : PortId) (kept : Option (List Byte)) (g : PhysicalPage) :
    (s.keeping p kept).wordCheckFailure g = (s.wordCheckFailure g).keeping p kept := by
  have word : ((s.keeping p kept).faultsOf g).word = (s.faultsOf g).word := rfl
  unfold State.wordCheckFailure
  rw [word]
  split <;> rfl

/-- A word access goes on from a state with its run, or ends it there, alike whatever frame is kept. -/
inductive AccessOutcome (s : State) (p : PortId) (fails : Bool) : Prop where
  | goesOn (u : State) (run : DataRun)
      (h : ∀ kept, (s.keeping p kept).accessWord p fails = (u.keeping p kept).continueRun p run)
  | ends (u : State) (code : Byte) (st : Status) (rs : List Byte) (hphase : u.phase = s.phase)
      (h : ∀ kept, (s.keeping p kept).accessWord p fails = (u.keeping p kept).endRun p code st rs)

theorem accessRead_outcome {s : State} {p : PortId} {a : LogicalAddress} {left : Nat} {got : List Word}
    (hrun : (s.port p).run = some (.read a left got)) (fails : Bool) : AccessOutcome s p fails := by
  have read (kept : Option (List Byte)) :
      (s.keeping p kept).accessWord p fails = (s.keeping p kept).accessRead p fails a left got :=
    State.accessWord_read ((s.keeping_port_run p kept).trans hrun) fails
  have page (kept : Option (List Byte)) :
      (s.keeping p kept).pageRefusal ((s.keeping p kept).entryFor p a).page =
        s.pageRefusal (s.entryFor p a).page := rfl
  let words := got ++ [s.words.read (s.physical p a)]
  cases hpage : s.pageRefusal (s.entryFor p a).page with
  | some st =>
    exact .ends s 0x13 st [] rfl fun kept =>
      (read kept).trans (State.accessRead_refused ((page kept).trans hpage) fails left got)
  | none =>
    have passes (kept : Option (List Byte)) := (page kept).trans hpage
    cases fails with
    | true =>
      refine .ends (s.wordCheckFailure (s.entryFor p a).page) 0x13 .wordFault (addressBytes a)
        (State.wordCheckFailure_phase ..) fun kept => (read kept).trans ?_
      rw [← State.keeping_wordCheckFailure]
      exact State.accessRead_fails (passes kept) left got
    | false =>
      by_cases hleft : left ≤ 1
      · exact .ends s 0x13 .ok (words.flatMap bytes32) rfl fun kept =>
          (read kept).trans (State.accessRead_last (passes kept) hleft got)
      · exact .goesOn s (.read (a + 1) (left - 1) words) fun kept =>
          (read kept).trans (State.accessRead_next (passes kept) (Nat.lt_of_not_le hleft) got)

theorem accessWrite_outcome {s : State} {p : PortId} {a : LogicalAddress} {rest : List Word} {written : Nat}
    (hrun : (s.port p).run = some (.write a rest written)) (fails : Bool) : AccessOutcome s p fails := by
  have write (kept : Option (List Byte)) :
      (s.keeping p kept).accessWord p fails = (s.keeping p kept).accessWrite p a rest written :=
    State.accessWord_write ((s.keeping_port_run p kept).trans hrun) fails
  have page (kept : Option (List Byte)) :
      (s.keeping p kept).pageRefusal ((s.keeping p kept).entryFor p a).page =
        s.pageRefusal (s.entryFor p a).page := rfl
  cases rest with
  | nil => exact .ends s 0x14 .ok [byteOfNat written] rfl write
  | cons w later =>
    cases hpage : s.pageRefusal (s.entryFor p a).page with
    | some st =>
      exact .ends s 0x14 st [byteOfNat written] rfl fun kept =>
        (write kept).trans (State.accessWrite_refused ((page kept).trans hpage) w later written)
    | none =>
      have passes (kept : Option (List Byte)) := (page kept).trans hpage
      by_cases hlater : later = []
      · subst hlater
        exact .ends (s.stored p a w) 0x14 .ok [byteOfNat (written + 1)] rfl fun kept =>
          (write kept).trans (State.accessWrite_last (passes kept) w written)
      · exact .goesOn (s.stored p a w) (.write (a + 1) later (written + 1)) fun kept =>
          (write kept).trans (State.accessWrite_next (passes kept) w hlater written)

theorem accessWord_outcome {s : State} {p : PortId} (h : (s.port p).run ≠ none) (fails : Bool) :
    AccessOutcome s p fails := by
  cases hrun : (s.port p).run with
  | none => exact absurd hrun h
  | some run =>
    cases run with
    | read a left got => exact accessRead_outcome hrun fails
    | write a rest written => exact accessWrite_outcome hrun fails

/-- The state in which a kept frame is taken is the one that the run leaves with none kept. -/
theorem State.runEnded_keeping (s : State) (p : PortId) (kept : Option (List Byte)) (code : Byte) (st : Status)
    (rs : List Byte) :
    ((s.keeping p kept).runEnded p code st rs).keeping p none = (s.keeping p none).runEnded p code st rs := by
  simp only [State.keeping, State.runEnded, State.answer, State.modPort_modPort, Port.respond]

theorem State.continueRun_keeping (s : State) (p : PortId) (kept : Option (List Byte)) (run : DataRun) :
    (s.keeping p kept).continueRun p run = ((s.keeping p none).continueRun p run).keeping p kept := by
  simp only [State.keeping, State.continueRun, State.modPort_modPort]

/-! ### The command that a frame is read as -/

/-- A reading gives commands of one port. -/
def IssuedAt (p : PortId) (r : Except Status Instr) : Prop := ∀ i, r = .ok i → i.commandPort = some p

theorem IssuedAt.ok {p : PortId} {i : Instr} (h : i.commandPort = some p) : IssuedAt p (.ok i) := by
  intro j hj
  cases hj
  exact h

theorem IssuedAt.error {p : PortId} {st : Status} : IssuedAt p (.error st) := nofun

theorem IssuedAt.ite {p : PortId} {c : Prop} [Decidable c] {x y : Except Status Instr} (hx : IssuedAt p x)
    (hy : IssuedAt p y) : IssuedAt p (if c then x else y) := by
  split
  · exact hx
  · exact hy

theorem IssuedAt.layout0 {p : PortId} {i : Instr} (h : i.commandPort = some p) (ps : List Byte) :
    IssuedAt p (layout0 i ps) := by
  cases ps with
  | nil => exact .ok h
  | cons => exact .error

theorem IssuedAt.layout1 {p : PortId} {f : Byte → Instr} (h : ∀ a, (f a).commandPort = some p) (ps : List Byte) :
    IssuedAt p (layout1 f ps) := by
  rw [layout1_eq]
  split
  · exact .ok (h _)
  · exact .error

/-- A list of fields read whole gives its command, or LENGTH. -/
theorem IssuedAt.orLength {α : Type} {p : PortId} {f : α → Instr} (h : ∀ a, (f a).commandPort = some p)
    (o : Option α) : IssuedAt p (orLength (o.map f)) := by
  cases o with
  | none => exact .error
  | some a => exact .ok (h a)

theorem readContextWrite_issued (p : PortId) (params : List Byte) : IssuedAt p (readContextWrite p params) := by
  unfold readContextWrite
  split
  · exact .error
  · split_ifs
    · split
      · exact .orLength (fun _ => rfl) _
      · exact .error
    · split
      · exact .orLength (fun _ => rfl) _
      · exact .error
    · exact .error

theorem readWriteWords_issued (p : PortId) (params : List Byte) : IssuedAt p (readWriteWords p params) := by
  unfold readWriteWords
  split
  · exact .orLength (fun _ => rfl) _
  · exact .error

theorem readReadWords_issued (p : PortId) (params : List Byte) : IssuedAt p (readReadWords p params) := by
  unfold readReadWords
  split <;> [exact .ok rfl; exact .error]

theorem readClearFaults_issued (p : PortId) (params : List Byte) : IssuedAt p (readClearFaults p params) := by
  unfold readClearFaults
  split <;> [exact .ok rfl; exact .error]

theorem readWriteGate_issued (p : PortId) (params : List Byte) : IssuedAt p (readWriteGate p params) := by
  unfold readWriteGate
  split <;> [exact .ok rfl; exact .error]

theorem readReadGate_issued (p : PortId) (params : List Byte) : IssuedAt p (readReadGate p params) := by
  unfold readReadGate
  split <;> [exact .ok rfl; exact .error]

theorem readConfigLine_issued (p : PortId) (params : List Byte) : IssuedAt p (readConfigLine p params) := by
  unfold readConfigLine
  split <;> [exact .ok rfl; exact .error]

theorem readSetTimer_issued (p : PortId) (params : List Byte) : IssuedAt p (readSetTimer p params) := by
  unfold readSetTimer
  split <;> [exact .ok rfl; exact .error]

theorem readStartCheck_issued (p : PortId) (params : List Byte) : IssuedAt p (readStartCheck p params) := by
  unfold readStartCheck
  split <;> [exact .ok rfl; exact .error]

/-- A frame is read as a command of the port that it came in at (R166). -/
theorem readCommand_issued (p : PortId) (code : Byte) (params : List Byte) :
    IssuedAt p (readCommand p code params) := by
  have one {f : Byte → Instr} (h : ∀ a, (f a).commandPort = some p) : IssuedAt p (layout1 f params) := .layout1 h params
  have none {i : Instr} (h : i.commandPort = some p) : IssuedAt p (layout0 i params) := .layout0 h params
  unfold readCommand
  exact .ite (.ok rfl) <| .ite (one fun _ => rfl) <| .ite (one fun _ => rfl) <| .ite (none rfl) <|
    .ite (.orLength (fun _ => rfl) _) <| .ite (one fun _ => rfl) <| .ite (one fun _ => rfl) <|
    .ite (readReadWords_issued p params) <| .ite (readWriteWords_issued p params) <| .ite (none rfl) <|
    .ite (readClearFaults_issued p params) <| .ite (readContextWrite_issued p params) <| .ite (one fun _ => rfl) <|
    .ite (one fun _ => rfl) <| .ite (one fun _ => rfl) <| .ite (readWriteGate_issued p params) <|
    .ite (readReadGate_issued p params) <| .ite (one fun _ => rfl) <| .ite (one fun _ => rfl) <|
    .ite (one fun _ => rfl) <| .ite (one fun _ => rfl) <| .ite (none rfl) <|
    .ite (readConfigLine_issued p params) <| .ite (one fun _ => rfl) <|
    .ite (none rfl) <| .ite (readSetTimer_issued p params) <| .ite (readStartCheck_issued p params) <|
    .ite (none rfl) <| .ite (none rfl) <| .ite (none rfl) <| .ite (one fun _ => rfl) <| .ite (one fun _ => rfl) <|
    .ite (none rfl) <|
    .error

/-- The taking of a frame, by the three tests of R166, where the port takes commands. -/
theorem takeFrame_outcomes {p : PortId} {s : State} (htakes : s.takes p) (frame : List Byte) :
    (crc8 frame ≠ 0x00#8 → takeFrame p frame s = s.answer p (frame.getD 1 0x00#8) .checksum []) ∧
    (crc8 frame = 0x00#8 →
      (∀ st, readCommand p (frame.getD 1 0x00#8) (frame.drop 2).dropLast = .error st →
        takeFrame p frame s = s.answer p (frame.getD 1 0x00#8) st []) ∧
      ∀ i, readCommand p (frame.getD 1 0x00#8) (frame.drop 2).dropLast = .ok i →
        .next (takeFrame p frame s) = exec i s) := by
  have passed (hcrc : crc8 frame = 0x00#8) :
      decodeFrame p frame = readCommand p (frame.getD 1 0x00#8) (frame.drop 2).dropLast := by
    rw [decodeFrame, if_neg (not_not.mpr hcrc)]
  refine ⟨fun hcrc => ?_, fun hcrc => ⟨fun st hst => ?_, fun i hi => ?_⟩⟩
  · rw [takeFrame, decodeFrame, if_pos hcrc]
    rfl
  · rw [takeFrame, passed hcrc, hst]
    rfl
  · rw [exec_of_takes (readCommand_issued _ _ _ i hi) htakes, takeFrame, passed hcrc, hi]

/-- The third clause of O16: a word access with a frame kept, by what the same access does with none kept. -/
theorem wordAccess_with_kept_frame {p : PortId} {s t : State} {fails : Bool} {frame : List Byte}
    (hphase : s.phase = .operating) (hrun : (s.port p).run ≠ none) (hkept : (s.port p).kept = some frame)
    (ht : exec (.dataRunWordAccess p fails) (s.keeping p none) = .next t) :
    ((t.port p).run ≠ none ∧ exec (.dataRunWordAccess p fails) s = .next (t.keeping p (some frame))) ∨
      (t.takes p ∧ exec (.dataRunWordAccess p fails) s = .next (takeFrame p frame t)) := by
  have unkept : (s.keeping p none).phase = .operating := hphase
  have here : s.keeping p (some frame) = s := State.keeping_self hkept
  rw [exec_wordAccess unkept] at ht
  rw [exec_wordAccess hphase]
  cases accessWord_outcome hrun fails with
  | goesOn u run h =>
    rw [h none] at ht
    cases ht
    refine Or.inl ⟨by simp [State.continueRun], ?_⟩
    rw [← State.continueRun_keeping, ← h (some frame), here]
  | ends u code st rs uphase h =>
    rw [h none, State.endRun_of_unkept (u.keeping_port_kept p none)] at ht
    cases ht
    refine Or.inr ⟨⟨uphase.trans hphase, ?_⟩, ?_⟩
    · rw [State.runEnded_port]
      rfl
    · rw [← State.runEnded_keeping u p (some frame), ← here, h (some frame),
        State.endRun_of_kept (u.keeping_port_kept p (some frame))]
      rfl

/-- Settles O16: a command during a run is kept or discarded, and a word access that ends the run takes the kept frame
in the state it leaves with none kept. -/
theorem keptFrameIsTakenAfterTheRun : Obligations.KeptFrameIsTakenAfterTheRun := by
  refine ⟨fun p i s r hp hphase hrun => ?_, fun p s code st rs frame hkept => State.endRun_of_kept hkept code st rs,
    fun p s t fails frame hphase hrun hkept ht => ?_⟩
  · rw [exec_during_run hp hphase hrun]
    refine ⟨fun hnone => congrArg _ (s.modPort_congr ?_), fun hsome => congrArg _ (s.modPort_id ?_)⟩
    · simp only [Port.keep, hnone]
    · obtain ⟨frame, hframe⟩ := Option.ne_none_iff_exists'.mp hsome
      simp only [Port.keep, hframe]
  · rcases wordAccess_with_kept_frame hphase hrun hkept ht with ⟨hon, hnext⟩ | ⟨htakes, hnext⟩
    · exact ⟨fun _ => hnext, fun hoff => absurd hoff hon, fun hoff => absurd hoff hon⟩
    · obtain ⟨checksum, tests⟩ := takeFrame_outcomes htakes frame
      obtain ⟨-, hnone⟩ := htakes
      refine ⟨fun hon => absurd hnone hon, fun _ hcrc => ?_, fun _ hcrc => ?_⟩
      · exact hnext.trans (congrArg _ (checksum hcrc))
      · obtain ⟨error, ok⟩ := tests hcrc
        exact ⟨fun st hst => hnext.trans (congrArg _ (error st hst)), fun i hi => hnext.trans (ok i hi)⟩

end Sys2Proof.Machine
end

section
/-! PROOFS. Context records stay ones that the manual admits (R22 to R30): what each operation makes of one record. -/

namespace Sys2Proof.Machine

/-! ### Blocks that pass R25 and R26 -/

/-- What a record that fits says of its block. -/
structure Block.Fits (b : Block) : Prop where
  positive : 1 ≤ b.count
  bounded : b.count ≤ 4096
  inRange : b.inRange = true

theorem parseBlock_count {f : BlockFields} {b : Block} (h : parseBlock f = some b) : 1 ≤ b.count ∧ b.count ≤ 4096 := by
  unfold parseBlock at h
  split at h
  · split_ifs at h with hcount
    cases h
    exact hcount
  · cases h

/-- A block is accepted where it parses and lies in range. -/
theorem checkBlock_eq_ok {f : BlockFields} {b : Block} :
    checkBlock f = .ok b ↔ parseBlock f = some b ∧ b.inRange = true := by
  unfold checkBlock
  split
  · rename_i hnone
    simp [hnone]
  · rename_i b' hb
    split <;> rename_i hrange <;> simp only [hb, Option.some.injEq, Except.ok.injEq, reduceCtorEq, false_iff]
    · exact ⟨fun h => ⟨h, h ▸ hrange⟩, And.left⟩
    · rintro ⟨rfl, h⟩
      exact hrange h

theorem Block.fits_of_checkBlock {f : BlockFields} {b : Block} (h : checkBlock f = .ok b) : b.Fits := by
  obtain ⟨hparse, hrange⟩ := checkBlock_eq_ok.mp h
  obtain ⟨hpositive, hbounded⟩ := parseBlock_count hparse
  exact ⟨hpositive, hbounded, hrange⟩

/-! ### The operation part of the continuation (R29) -/

theorem partFits_initial (op : Operation) (n : Nat) : partFits op n op.initialPart := by
  cases op with
  | cmp | cmps => exact ⟨rfl, n.zero_le⟩
  | _ => rfl

theorem partFits.mono {op : Operation} {m n : Nat} {part : OpPart} (h : partFits op m part) (hmn : m ≤ n) :
    partFits op n part := by
  cases part with
  | plain | accumulator => exact h
  | hits c =>
    obtain ⟨hop, hc⟩ := h
    exact ⟨hop, hc.trans hmn⟩
  | peak best =>
    cases best with
    | none => exact h
    | some x =>
      obtain ⟨hop, hx⟩ := h
      exact ⟨hop, hx.trans_le hmn⟩

theorem partFits.hitCount_le {op : Operation} {n : Nat} {part : OpPart} (h : partFits op n part) :
    part.hitCount ≤ n := by
  cases part with
  | hits c =>
    obtain ⟨-, hc⟩ := h
    exact hc
  | plain | accumulator | peak => exact n.zero_le

/-- The index of a peak record after element n is at most n (R118). -/
theorem partFits.peakAfter_lt {op : Operation} {n : Nat} {part : OpPart} (h : partFits op n part) (v : Word) :
    (part.peakAfter v n).2 < n + 1 := by
  unfold OpPart.peakAfter
  split
  · obtain ⟨-, hi⟩ := h
    split
    · exact n.lt_succ_self
    · exact hi.trans n.lt_succ_self
  all_goals exact n.lt_succ_self

theorem hitResult_part (z : Descriptor) (count n h : Nat) (hit : Bool) :
    (hitResult z count n h hit).part = .hits (if hit then h + 1 else h) := rfl

theorem dotResult_part (z : Descriptor) (shift count n : Nat) (sum product : Int) :
    ∃ a, (dotResult z shift count n sum product).part = .accumulator a := by
  unfold dotResult
  dsimp only
  split <;> exact ⟨_, rfl⟩

/-- A step keeps the operation part of its kind, with the bounds of R29 for the next index. -/
theorem partFits_results {op : Operation} {count n : Nat} {part : OpPart} (h : partFits op n part)
    (read : LogicalAddress → Word) : partFits op (n + 1) (op.results count n part read).part := by
  have hits {z : Descriptor} {op : Operation} (hop : op.initialPart = .hits 0) (hit : Bool) :
      partFits op (n + 1) (hitResult z count n part.hitCount hit).part := by
    have bound := h.hitCount_le
    rw [hitResult_part]
    exact ⟨hop, by split <;> omega⟩
  cases op with
  | dot shift x y z =>
    obtain ⟨a, ha⟩ := dotResult_part z shift count n part.sum
      ((read (x.address n)).toInt * (read (y.address n)).toInt)
    simp only [Operation.results, ha]
    rfl
  | cmp rel mag x y z => exact hits rfl _
  | cmps rel mag w x z => exact hits rfl _
  | peak x z => exact ⟨rfl, h.peakAfter_lt _⟩
  | _ => exact h.mono n.le_succ

/-! ### One record -/

theorem RecordFits.block {k : Context} (h : RecordFits k) : k.block.Fits := by
  obtain ⟨positive, bounded, range, -⟩ := h
  exact ⟨positive, bounded, range⟩

/-- An active record is not FAULTED, so it has no cause (R30). -/
theorem RecordFits.cause_eq_none {k : Context} (h : RecordFits k) (hactive : k.state.isActive = true) :
    k.cause = none := by
  obtain ⟨-, -, -, -, -, -, -, faulted, -⟩ := h
  rw [← Option.not_isSome_iff_eq_none, ← faulted]
  intro hstate
  rw [hstate] at hactive
  cases hactive

theorem RecordFits.nested_eq_false {k : Context} (h : RecordFits k) (hrun : k.state ≠ .running)
    (hpre : k.state ≠ .preempted) : k.nested = false := by
  obtain ⟨-, -, -, -, -, -, -, -, -, nested⟩ := h
  rw [Bool.eq_false_iff]
  exact fun hnested => (nested hnested).elim hrun hpre

/-- A record in an active state, from what a continuation, a starter and the nested field must be there. -/
theorem RecordFits.of_active {k : Context} (hblock : k.block.Fits) (hactive : k.state.isActive = true)
    (hnext : k.continuation.next < k.block.count)
    (hpart : partFits k.block.operation k.continuation.next k.continuation.part) (hcause : k.cause = none)
    (hstarter : k.startedBy.isSome = true) (hnested : k.nested = true → k.state = .running ∨ k.state = .preempted) :
    RecordFits k := by
  refine ⟨hblock.positive, hblock.bounded, hblock.inRange, hnext.le, fun _ => hnext, fun hdone => ?_, hpart, ?_,
    fun _ => hstarter, hnested⟩
  · rw [hdone] at hactive
    cases hactive
  · rw [hcause]
    refine iff_of_false (fun hfaulted => ?_) nofun
    rw [hfaulted] at hactive
    cases hactive

/-- A record in an inactive state. -/
theorem RecordFits.of_inactive {k : Context} (hblock : k.block.Fits) (hinactive : k.state.isActive = false)
    (hnext : k.continuation.next ≤ k.block.count) (hdone : k.state = .done → k.continuation.next = k.block.count)
    (hpart : partFits k.block.operation k.continuation.next k.continuation.part)
    (hcause : k.state = .faulted ↔ k.cause.isSome = true) (hnested : k.nested = false) : RecordFits k := by
  have never {P : Prop} (hactive : k.state.isActive = true) : P := by
    rw [hinactive] at hactive
    cases hactive
  exact ⟨hblock.positive, hblock.bounded, hblock.inRange, hnext, never, hdone, hpart, hcause, never,
    fun h => by rw [hnested] at h; cases h⟩

/-- An active record whose state and nested field change stays fitting (R66, R78, R80). -/
theorem RecordFits.moved {k : Context} (h : RecordFits k) (hactive : k.state.isActive = true) {st : ContextState}
    {nested : Bool} (hst : st.isActive = true) (hnested : nested = true → st = .running ∨ st = .preempted) :
    RecordFits { k with state := st, nested := nested } := by
  have hcause := h.cause_eq_none hactive
  have hblock := h.block
  obtain ⟨-, -, -, -, below, -, part, -, started, -⟩ := h
  exact .of_active hblock hst (below hactive) part hcause (started hactive) hnested

/-- Acceptance starts a continuation anew (R60). -/
theorem RecordFits.accepted {k : Context} (h : RecordFits k) (who : Starter) {st : ContextState} {nested : Bool}
    (hst : st.isActive = true) (hnested : nested = true → st = .running ∨ st = .preempted) :
    RecordFits (k.accepted who st nested) :=
  .of_active h.block hst h.block.positive (partFits_initial _ 0) rfl rfl hnested

theorem RecordFits.faulted {k : Context} (h : RecordFits k) (cause : FaultCause) :
    RecordFits (k.ended .faulted (some cause)) := by
  have hblock := h.block
  obtain ⟨-, -, -, next, -, -, part, -⟩ := h
  exact .of_inactive hblock rfl next nofun part (iff_of_true rfl rfl) rfl

/-- The continuation that a step of an active record writes (R93 stage 6). -/
theorem RecordFits.part_advanced {k : Context} (h : RecordFits k) (s : State) :
    partFits k.block.operation (k.continuation.next + 1) (s.stepResult k).part := by
  obtain ⟨-, -, -, -, -, -, part, -⟩ := h
  exact partFits_results part _

theorem RecordFits.advanced {k : Context} (h : RecordFits k) (hactive : k.state.isActive = true) (s : State)
    (hnext : k.continuation.next + 1 ≠ k.block.count) : RecordFits (k.advanced (s.stepResult k)) := by
  have hcause := h.cause_eq_none hactive
  have hpart := h.part_advanced s
  have hblock := h.block
  obtain ⟨-, -, -, -, below, -, -, -, started, nested⟩ := h
  have := below hactive
  exact .of_active hblock hactive (show k.continuation.next + 1 < k.block.count by omega) hpart hcause
    (started hactive) nested

/-- The last step makes n equal to N (R96). -/
theorem RecordFits.completed {k : Context} (h : RecordFits k) (s : State)
    (hnext : k.continuation.next + 1 = k.block.count) :
    RecordFits ((k.advanced (s.stepResult k)).ended .done none) :=
  .of_inactive h.block rfl hnext.le (fun _ => hnext) (h.part_advanced s) (iff_of_false nofun nofun) rfl

theorem RecordFits.defined (p : PortId) {b : Block} (hb : b.Fits) : RecordFits (Context.defined p b) :=
  .of_inactive hb rfl b.count.zero_le nofun (partFits_initial _ 0) (iff_of_false nofun nofun) rfl

/-- An inactive record is not nested (R28). -/
theorem RecordFits.unnested {k : Context} (h : RecordFits k) (hinactive : k.state.isActive = false) :
    k.nested = false :=
  h.nested_eq_false (fun hst => by rw [hst] at hinactive; cases hinactive)
    fun hst => by rw [hst] at hinactive; cases hinactive

theorem RecordFits.withBlock {k : Context} (h : RecordFits k) (hinactive : k.state.isActive = false) {b : Block}
    (hb : b.Fits) : RecordFits (k.withBlock b) := by
  have hnested := h.unnested hinactive
  obtain ⟨-, -, -, -, -, -, -, faulted, -⟩ := h
  refine .of_inactive hb hinactive ?_ (fun hdone => if_pos hdone) (partFits_initial ..) faulted hnested
  show (if k.state = .done then b.count else 0) ≤ b.count
  split <;> omega

theorem RecordFits.cleared {k : Context} (h : RecordFits k) (hinactive : k.state.isActive = false) :
    RecordFits k.cleared :=
  .of_inactive h.block rfl k.block.count.zero_le nofun (partFits_initial _ 0) (iff_of_false nofun nofun)
    (h.unnested hinactive)

end Sys2Proof.Machine
end

section
/-! PROOFS. Every step keeps every context record one that the manual admits (R22 to R30): the invariant over the
operations of the run structure, then over the commands and events. -/

namespace Sys2Proof.Machine

/-! ### States that share contexts, chain and ready list -/

/-- `t` has the contexts, the chain and the ready list of `s`. -/
structure SameContexts (s t : State) : Prop where
  contexts : t.contexts = s.contexts
  chain : t.chain = s.chain
  ready : t.ready = s.ready

theorem SameContexts.refl (s : State) : SameContexts s s := ⟨rfl, rfl, rfl⟩

theorem SameContexts.trans {s t u : State} (h : SameContexts s t) (h' : SameContexts t u) : SameContexts s u :=
  ⟨h'.contexts.trans h.contexts, h'.chain.trans h.chain, h'.ready.trans h.ready⟩

theorem SameRun.sameContexts {s t : State} (h : SameRun s t) : SameContexts s t := ⟨h.contexts, h.chain, h.ready⟩

theorem SameContexts.ctx {s t : State} (h : SameContexts s t) (c : ContextId) : t.ctx c = s.ctx c := by
  simp [State.ctx, h.contexts]

theorem SameContexts.modCheck (s : State) (f : CheckRecord → CheckRecord) : SameContexts s (s.modCheck f) :=
  ⟨rfl, rfl, rfl⟩

theorem SameContexts.closeCheck (s : State) : SameContexts s s.closeCheck :=
  ⟨by unfold State.closeCheck; rfl, s.closeCheck_chain, s.closeCheck_ready⟩

theorem SameContexts.acceptCheck (s : State) (p : PortId) (pages : PageSet) (q : StepRequest) :
    SameContexts s (s.acceptCheck p pages q) :=
  ⟨by unfold State.acceptCheck; rfl, by simp, by simp⟩

theorem SameContexts.judgePage (s : State) (g : PhysicalPage) (o : TestOutcome) : SameContexts s (s.judgePage g o) := by
  cases o <;> exact ⟨rfl, rfl, rfl⟩

theorem SameContexts.judgePair (s : State) (a b : PhysicalPage) (o : TestOutcome) :
    SameContexts s (s.judgePair a b o) := by
  cases o <;> exact ⟨rfl, rfl, rfl⟩

/-! ### The store check: contexts stand, and at its end a service pass is made (R154) -/

/-- A state with the contexts and the collections of `s`, or what a service pass makes of one. -/
inductive Served (s : State) : State → Prop where
  | quiet {t : State} (h : SameContexts s t) : Served s t
  | pass {u : State} (h : SameContexts s u) : Served s u.servicePass

theorem Served.of_sameContexts {s t u : State} (h : SameContexts s t) (hu : Served t u) : Served s u := by
  cases hu with
  | quiet h' => exact .quiet (h.trans h')
  | pass h' => exact .pass (h.trans h')

theorem endCheck_served (s : State) : Served s s.endCheck :=
  .pass ((SameContexts.closeCheck s).trans ((SameRun.raiseAt ..).trans (.raiseAt ..)).sameContexts)

theorem takePair_served (s : State) (next : Option (PhysicalPage × PhysicalPage)) : Served s (s.takePair next) := by
  unfold State.takePair
  split
  · exact .quiet (.modCheck ..)
  · exact endCheck_served s

theorem afterPattern_served (s : State) : Served s s.afterPattern := by
  unfold State.afterPattern
  split
  · exact takePair_served ..
  · exact endCheck_served s

theorem nextPageTest_served (s : State) : Served s s.nextPageTest := by
  unfold State.nextPageTest
  split
  · exact .quiet (.modCheck ..)
  · exact afterPattern_served s

theorem afterReference_served (s : State) : Served s s.afterReference := by
  unfold State.afterReference
  split
  · exact nextPageTest_served s
  · exact afterPattern_served s

theorem completeReference_served (s : State) (o : TestOutcome) : Served s (s.completeReference o) := by
  unfold State.completeReference
  split
  · exact .of_sameContexts (.modCheck ..) (afterReference_served _)
  · unfold State.referenceFailed
    refine .of_sameContexts (.trans ?_ (SameRun.raiseAt ..).sameContexts) (endCheck_served _)
    exact ⟨rfl, rfl, rfl⟩
  · exact .quiet (.refl s)

theorem completePage_served (s : State) (o : TestOutcome) : Served s (s.completePage o) := by
  unfold State.completePage
  split
  · exact .of_sameContexts (.judgePage ..) (nextPageTest_served _)
  · exact .quiet (.refl s)

theorem completePair_served (s : State) (o : TestOutcome) : Served s (s.completePair o) := by
  unfold State.completePair
  split
  · exact .of_sameContexts (.judgePair ..) (takePair_served ..)
  · exact .quiet (.refl s)

/-! ### The invariant and the operations of the run structure -/

/-- The records fit, and the chain and the ready list hold active contexts: what successor selection needs. -/
structure RecordsGuarded (s : State) : Prop where
  members : MembersActive s
  records : RecordsFit s

theorem RecordsGuarded.of_sameContexts {s t : State} (h : SameContexts s t) (hs : RecordsGuarded s) :
    RecordsGuarded t :=
  ⟨hs.members.congr h.chain h.ready h.ctx, fun c k hk => hs.records c k ((h.ctx c).symm.trans hk)⟩

theorem RecordsGuarded.of_sameRun {s t : State} (h : SameRun s t) (hs : RecordsGuarded s) : RecordsGuarded t :=
  hs.of_sameContexts h.sameContexts

theorem RecordsGuarded.answer {s : State} (h : RecordsGuarded s) (p : PortId) (code : Byte) (st : Status)
    (rs : List Byte) : RecordsGuarded (s.answer p code st rs) := h.of_sameRun (.answer ..)

theorem RecordsGuarded.refuse {s : State} (h : RecordsGuarded s) (p : PortId) (code : Byte) (st : Status) :
    RecordsGuarded (s.refuse p code st) := h.answer ..

/-- Where every record fits, one may be rewritten to one that fits. -/
theorem RecordsFit.modCtx {s : State} (h : RecordsFit s) {c : ContextId} {f : Context → Context}
    (hf : ∀ k, s.ctx c = some k → RecordFits (f k)) : RecordsFit (s.modCtx c f) := by
  intro d k hk
  rw [State.modCtx_ctx] at hk
  split at hk
  · obtain ⟨k₀, hk₀, rfl⟩ := Option.map_eq_some_iff.mp hk
    exact hf k₀ hk₀
  · exact h d k hk

/-- Contexts that leave: where the members that stay are active, one of them may come to run (R75, R87). -/
theorem RecordsGuarded.withdraw {s : State} (h : RecordsFit s) {w : ContextId → Bool} (hw : StayersActive s w) :
    RecordsGuarded (s.withdraw w) := by
  refine ⟨State.withdraw_membersActive hw, fun c k hk => ?_⟩
  rcases s.withdraw_ctx_member w c with hc | ⟨⟨hmem, hstays⟩, hc⟩ <;> rw [hc] at hk
  · exact h c k hk
  · obtain ⟨k₀, hk₀, hactive⟩ := hw c hmem hstays
    rw [hk₀] at hk
    cases hk
    exact (h c k₀ hk₀).moved hactive rfl fun _ => Or.inl rfl

/-- A context whose record is rewritten and that leaves the run structure. -/
theorem RecordsGuarded.leave {s : State} (h : MembersActive s) {c : ContextId} {f : Context → Context}
    (hf : RecordsFit (s.modCtx c f)) : RecordsGuarded ((s.modCtx c f).withdraw (· = c)) :=
  .withdraw hf fun d hd hstays => State.activeAt_modCtx (h d hd) fun hdc => absurd hdc (of_decide_eq_false hstays)

/-- An active record written in a defined slot, which may enter the chain or the ready list. -/
theorem RecordsGuarded.enter {s t : State} (h : RecordsGuarded s) {c : ContextId} {f : Context → Context}
    (hc : (s.ctx c).isSome = true) (hctx : t.contexts = (s.modCtx c f).contexts)
    (hf : ∀ k, s.ctx c = some k → RecordFits (f k) ∧ (f k).state.isActive = true)
    (hmem : ∀ d, d ∈ t.chain ∨ d ∈ t.ready → d = c ∨ d ∈ s.chain ∨ d ∈ s.ready) : RecordsGuarded t := by
  have same (d : ContextId) : t.ctx d = (s.modCtx c f).ctx d := congrArg (·[d]) hctx
  have active (d : ContextId) (hd : d = c ∨ s.activeAt d) : (s.modCtx c f).activeAt d := by
    rcases hd with rfl | hd
    · obtain ⟨k, hk⟩ := Option.isSome_iff_exists.mp hc
      obtain ⟨-, hactive⟩ := hf k hk
      exact State.activeAt_modCtx_self hk hactive
    · refine State.activeAt_modCtx hd fun _ k hk _ => ?_
      obtain ⟨-, hactive⟩ := hf k hk
      exact hactive
  refine ⟨fun d hd => ?_, fun d k hk => ?_⟩
  · obtain ⟨k, hk, hactive⟩ := active d ((hmem d hd).imp_right (h.members d))
    exact ⟨k, (same d).trans hk, hactive⟩
  · exact h.records.modCtx (fun k hk => (hf k hk).left) d k ((same d).symm.trans hk)

/-- A context accepted: RUNNING alone, READY, or over a runner that becomes PREEMPTED (R60, R72, R73). -/
theorem RecordsGuarded.accept {s : State} (h : RecordsGuarded s) {c : ContextId} (hc : (s.ctx c).isSome = true)
    (kind : GateKind) (who : Starter) : RecordsGuarded (s.accept c kind who) := by
  have fits {u : State} (hu : RecordsGuarded u) {st : ContextState} {nested : Bool} (hst : st.isActive = true)
      (hnested : nested = true → st = .running ∨ st = .preempted) (k : Context) (hk : u.ctx c = some k) :
      RecordFits (k.accepted who st nested) ∧ (k.accepted who st nested).state.isActive = true :=
    ⟨(hu.records c k hk).accepted who hst hnested, hst⟩
  unfold State.accept
  split
  · exact h.enter hc rfl (fits h rfl nofun) fun d hd => hd.imp List.mem_singleton.mp Or.inr
  · rename_i runner _ hchain
    split
    · refine h.enter hc rfl (fits h rfl nofun) fun d hd => ?_
      rcases hd with hd | hd
      · exact Or.inr (Or.inl hd)
      · exact (mem_insertByPriority hd).imp_right Or.inr
    · have preempted : RecordsGuarded (s.modCtx runner fun k => k.withState .preempted) := by
        obtain ⟨k, hk, hactive⟩ := h.members runner (.inl (by simp [hchain]))
        refine h.enter (by rw [hk]; rfl) rfl (fun k' hk' => ⟨?_, rfl⟩) fun d hd => Or.inr hd
        cases hk.symm.trans hk'
        exact (h.records runner k hk).moved hactive rfl fun _ => Or.inr rfl
      refine preempted.enter (by rwa [State.modCtx_ctx_isSome]) rfl (fits preempted rfl fun _ => Or.inl rfl)
        fun d hd => ?_
      rcases hd with hd | hd
      · exact (List.mem_cons.mp hd).imp_right Or.inl
      · exact Or.inr (Or.inr hd)

theorem State.isSome_of_checkInvocation {s : State} {gate : Option Gate} {who : Starter} {g : Gate}
    (h : s.checkInvocation gate who = .ok g) : (s.ctx g.context).isSome = true := by
  obtain ⟨-, -, k, hk, -⟩ := State.checkInvocation_ok h
  rw [hk]
  rfl

theorem RecordsGuarded.serveLine {s : State} (h : RecordsGuarded s) (l : LineId) : RecordsGuarded (s.serveLine l) := by
  unfold State.serveLine
  split
  · rename_i g hg
    exact (h.accept (State.isSome_of_checkInvocation hg) ..).of_sameRun (.modLine ..)
  · split
    · exact h.of_sameRun (.modLine ..)
    · exact h.of_sameRun ((SameRun.modLine ..).trans (.raiseAt ..))

theorem RecordsGuarded.servicePass {s : State} (h : RecordsGuarded s) : RecordsGuarded s.servicePass :=
  servicePass_invariant (fun _ l hs => hs.serveLine l) h

theorem RecordsGuarded.serviceIf {s : State} (h : RecordsGuarded s) (b : Bool) : RecordsGuarded (s.serviceIf b) := by
  unfold State.serviceIf
  split
  · exact h.servicePass
  · exact h

theorem RecordsGuarded.of_served {s t : State} (h : RecordsGuarded s) (hst : Served s t) : RecordsGuarded t := by
  cases hst with
  | quiet hsame => exact h.of_sameContexts hsame
  | pass hsame => exact (h.of_sameContexts hsame).servicePass

theorem RecordsGuarded.faultContext {s : State} (h : RecordsGuarded s) (c : ContextId) (cause : FaultCause) :
    RecordsGuarded (s.faultContext c cause) := by
  have ended : RecordsFit (s.modCtx c fun k => k.ended .faulted (some cause)) :=
    h.records.modCtx fun k hk => (h.records c k hk).faulted cause
  exact ((RecordsGuarded.leave h.members ended).of_sameRun (.postNotice ..)).servicePass

/-! ### The element step -/

theorem State.modCtx_modCtx_ctx (s : State) (c d : ContextId) (f g : Context → Context) :
    ((s.modCtx c f).modCtx c g).ctx d = (s.modCtx c (g ∘ f)).ctx d := by
  simp only [State.modCtx_ctx, if_true, Option.map_map]
  split <;> rfl

/-- Stages 5 to 7 of the step of an active context: below N it goes on, at N it is DONE (R93, R96). -/
theorem RecordsGuarded.finishStep {s : State} (h : RecordsGuarded s) {c : ContextId} {k : Context}
    (hk : s.ctx c = some k) (hactive : k.state.isActive = true) :
    RecordsGuarded (s.finishStep c k (s.stepResult k)) := by
  have stored := h.of_sameRun (.writeResults s k.owner (s.stepResult k).writes)
  have members : MembersActive
      ((s.writeResults k.owner (s.stepResult k).writes).modCtx c fun x => x.advanced (s.stepResult k)) :=
    stored.members.modCtx fun _ _ hactive => hactive
  unfold State.finishStep
  dsimp only
  split
  · rename_i hlast
    refine ((RecordsGuarded.leave members ?_).of_sameRun (.postNotice ..)).servicePass
    intro d k' hk'
    rw [State.modCtx_modCtx_ctx] at hk'
    refine stored.records.modCtx (fun k₀ hk₀ => ?_) d k' hk'
    cases hk.symm.trans hk₀
    exact (h.records c k hk).completed s hlast
  · rename_i hnext
    refine ⟨members, stored.records.modCtx fun k₀ hk₀ => ?_⟩
    cases hk.symm.trans hk₀
    exact (h.records c k hk).advanced hactive s hnext

theorem RecordsGuarded.stepContext {s : State} (h : RecordsGuarded s) {c : ContextId} {k : Context}
    (hk : s.ctx c = some k) (hactive : k.state.isActive = true) (f : Option Nat) :
    RecordsGuarded (s.stepContext c k f) := by
  unfold State.stepContext
  split
  · exact h.faultContext ..
  · split
    · exact (h.of_sameRun (.wordCheckFailure ..)).faultContext ..
    · split
      · exact h.faultContext ..
      · exact h.finishStep hk hactive

/-- The running context is the head of the chain, which is active. -/
theorem RecordsGuarded.elementStep {s : State} (h : RecordsGuarded s) (f : Option Nat) :
    RecordsGuarded (s.elementStep f) := by
  unfold State.elementStep
  split
  · exact h
  · rename_i c hc
    split
    · exact h
    · rename_i k hk
      obtain ⟨k', hk', hactive⟩ := h.members c (.inl (List.mem_of_head? hc))
      cases hk.symm.trans hk'
      exact h.stepContext hk hactive f

end Sys2Proof.Machine
end

section
/-! PROOFS. Every command, and so every step, keeps the context records ones that the manual admits. -/

namespace Sys2Proof.Machine

/-! ### Context commands -/

theorem checkDefine_block {slot : Byte} {f : BlockFields} {s : State} {c : ContextId} {b : Block}
    (h : checkDefine slot f s = .ok (c, b)) : checkBlock f = .ok b := by
  unfold checkDefine at h
  split at h
  · cases h
  · split at h
    · cases h
    · split at h
      · cases h
      · rename_i hb
        cases h
        exact hb

theorem checkSetParams_block {p : PortId} {slot : Byte} {f : BlockFields} {s : State} {c : ContextId} {b : Block}
    (h : checkSetParams p slot f s = .ok (c, b)) : checkBlock f = .ok b := by
  unfold checkSetParams at h
  split at h
  · cases h
  · split_ifs at h
    split at h
    · cases h
    · rename_i hb
      cases h
      exact hb

/-- A FREE slot is in no collection, and takes a record that fits (R33). -/
theorem RecordsGuarded.define {s : State} (h : RecordsGuarded s) {c : ContextId} (hc : s.ctx c = none) {k : Context}
    (hk : RecordFits k) : RecordsGuarded (s.setCtx c (some k)) := by
  refine ⟨fun d hd => ?_, fun d k' hk' => ?_⟩
  · obtain ⟨kd, hkd, hactive⟩ := h.members d hd
    refine ⟨kd, ?_, hactive⟩
    rw [State.setCtx_ctx, if_neg, hkd]
    rintro rfl
    rw [hc] at hkd
    cases hkd
  · rw [State.setCtx_ctx] at hk'
    split at hk'
    · cases hk'
      exact hk
    · exact h.records d k' hk'

/-- An inactive record rewritten to one that fits: its slot is in no collection that holds active contexts. -/
theorem RecordsGuarded.modInactive {s : State} (h : RecordsGuarded s) {c : ContextId} {k : Context}
    (hk : s.ctx c = some k) (hinactive : k.state.isActive = false) {f : Context → Context} (hf : RecordFits (f k)) :
    RecordsGuarded (s.modCtx c f) := by
  refine ⟨h.members.modCtx fun k' hk' hactive => ?_, h.records.modCtx fun k' hk' => ?_⟩ <;> cases hk.symm.trans hk'
  · rw [hinactive] at hactive
    cases hactive
  · exact hf

theorem RecordsGuarded.takeDefineContext {s : State} (h : RecordsGuarded s) (p : PortId) (slot : Byte)
    (f : BlockFields) : RecordsGuarded (takeDefineContext p slot f s) := by
  unfold Machine.takeDefineContext
  split
  · exact h.refuse ..
  · rename_i hok
    exact (h.define (checkDefine_ok hok) (.defined p (Block.fits_of_checkBlock (checkDefine_block hok)))).answer ..

theorem RecordsGuarded.takeSetParams {s : State} (h : RecordsGuarded s) (p : PortId) (slot : Byte) (f : BlockFields) :
    RecordsGuarded (takeSetParams p slot f s) := by
  unfold Machine.takeSetParams
  split
  · exact h.refuse ..
  · rename_i hok
    obtain ⟨k, hk, hinactive⟩ := checkSetParams_ok hok
    have fits := (h.records _ k hk).withBlock hinactive (Block.fits_of_checkBlock (checkSetParams_block hok))
    exact (h.modInactive hk hinactive fits).answer ..

theorem RecordsGuarded.takeClearContext {s : State} (h : RecordsGuarded s) (p : PortId) (slot : Byte) :
    RecordsGuarded (takeClearContext p slot s) := by
  unfold Machine.takeClearContext
  split
  · exact h.refuse ..
  · rename_i hok
    obtain ⟨k, hk, hinactive⟩ := checkClearContext_ok hok
    exact (h.modInactive hk hinactive ((h.records _ k hk).cleared hinactive)).servicePass.answer ..

/-- Slots that hold no member of the chain or the ready list become FREE (R39). -/
theorem RecordsGuarded.freeSlots {s : State} (h : RecordsGuarded s) {w : ContextId → Bool}
    (hw : ∀ c, c ∈ s.chain ∨ c ∈ s.ready → w c = false) : RecordsGuarded (s.freeSlots w) := by
  refine ⟨fun c hc => ?_, fun c k hk => ?_⟩
  · rw [State.freeSlots_chain, State.freeSlots_ready] at hc
    obtain ⟨k, hk, hactive⟩ := h.members c hc
    exact ⟨k, by rw [State.freeSlots_ctx, hw c hc]; simpa using hk, hactive⟩
  · rw [State.freeSlots_ctx] at hk
    split at hk
    · cases hk
    · exact h.records c k hk

theorem RecordsGuarded.takeFreeContext {s : State} (h : RecordsGuarded s) (p : PortId) (slot : Byte) :
    RecordsGuarded (takeFreeContext p slot s) := by
  unfold Machine.takeFreeContext
  split
  · exact h.refuse ..
  · rename_i c hok
    obtain ⟨k, hk, hinactive⟩ := checkFreeContext_ok hok
    refine (h.freeSlots fun d hd => decide_eq_false ?_).answer ..
    rintro rfl
    obtain ⟨kd, hkd, hactive⟩ := h.members d hd
    cases hk.symm.trans hkd
    rw [hinactive] at hactive
    cases hactive

/-! ### Invocation and the run commands -/

theorem RecordsGuarded.takeWriteGate {s : State} (h : RecordsGuarded s) (p : PortId) (gate : Byte) (present : Bool)
    (f : GateFields) : RecordsGuarded (takeWriteGate p gate present f s) := by
  unfold Machine.takeWriteGate
  split
  · exact h.refuse ..
  · rename_i g record _
    have written : SameContexts s { s with gates := update s.gates g record } := ⟨rfl, rfl, rfl⟩
    exact (h.of_sameContexts written).servicePass.answer ..

theorem RecordsGuarded.takeInvoke {s : State} (h : RecordsGuarded s) (p : PortId) (gate : Byte) :
    RecordsGuarded (takeInvoke p gate s) := by
  unfold Machine.takeInvoke
  split
  · exact h.refuse ..
  · rename_i hok
    exact (h.accept (State.isSome_of_checkInvocation hok) ..).answer ..

/-- An active context is set HELD and leaves the chain or the ready list (R78). -/
theorem RecordsGuarded.holdContext {s : State} (h : RecordsGuarded s) {c : ContextId} {k : Context}
    (hk : s.ctx c = some k) (hactive : k.state.isActive = true) : RecordsGuarded (s.holdContext c) := by
  have held : RecordsFit (s.modCtx c fun k => { k with state := .held, nested := false }) := by
    refine h.records.modCtx fun k' hk' => ?_
    cases hk.symm.trans hk'
    exact (h.records c k hk).moved hactive rfl nofun
  exact ((RecordsGuarded.leave h.members held).of_sameRun (.withHeldSet _ _)).serviceIf _

theorem RecordsGuarded.takeHold {s : State} (h : RecordsGuarded s) (p : PortId) (slot : Byte) :
    RecordsGuarded (takeHold p slot s) := by
  unfold Machine.takeHold
  split
  · exact h.refuse ..
  · rename_i c k hok
    have hk := checkControl_ok hok
    split
    · rename_i hstate
      exact (h.holdContext hk (by rw [hstate]; rfl)).answer ..
    · rename_i hstate
      split
      · exact (h.holdContext hk (by rw [hstate]; rfl)).answer ..
      · exact h.refuse ..
    all_goals exact h.refuse ..

/-- A HELD context, which is not nested, enters the chain or the ready list again (R80). -/
theorem RecordsGuarded.resumeContext {s : State} (h : RecordsGuarded s) {c : ContextId} {k : Context}
    (hk : s.ctx c = some k) (hheld : k.state = .held) : RecordsGuarded (s.resumeContext c) := by
  have defined : (s.ctx c).isSome = true := by rw [hk]; rfl
  have fits {st : ContextState} (hst : st.isActive = true) (k' : Context) (hk' : s.ctx c = some k') :
      RecordFits (k'.withState st) ∧ (k'.withState st).state.isActive = true := by
    cases hk.symm.trans hk'
    have unnested : k.nested = false :=
      (h.records c k hk).nested_eq_false (by rw [hheld]; nofun) (by rw [hheld]; nofun)
    refine ⟨(h.records c k hk).moved (by rw [hheld]; rfl) hst fun hnested => ?_, hst⟩
    rw [unnested] at hnested
    cases hnested
  unfold State.resumeContext
  dsimp only
  split
  · exact h.enter defined rfl (fits (st := .running) rfl) fun d hd => hd.imp List.mem_singleton.mp Or.inr
  · refine h.enter defined rfl (fits (st := .ready) rfl) fun d hd => ?_
    rcases hd with hd | hd
    · exact Or.inr (Or.inl hd)
    · exact (mem_insertByPriority hd).imp_right Or.inr

theorem RecordsGuarded.takeResume {s : State} (h : RecordsGuarded s) (p : PortId) (slot : Byte) :
    RecordsGuarded (takeResume p slot s) := by
  unfold Machine.takeResume
  split
  · exact h.refuse ..
  · rename_i hok
    split
    · rename_i hheld
      exact (h.resumeContext (checkControl_ok hok) hheld).answer ..
    · exact h.refuse ..

theorem RecordsGuarded.takeAbort {s : State} (h : RecordsGuarded s) (p : PortId) (slot : Byte) :
    RecordsGuarded (takeAbort p slot s) := by
  unfold Machine.takeAbort
  split
  · exact h.refuse ..
  · split
    · exact (h.faultContext ..).answer ..
    · exact h.refuse ..

/-! ### The store and its check -/

theorem takeWriteMap_sameContexts (p : PortId) (fs : List MapFields) (s : State) :
    SameContexts s (takeWriteMap p fs s) := by
  unfold takeWriteMap
  split <;> exact ⟨rfl, rfl, rfl⟩

theorem takeClearFaults_sameContexts (p : PortId) (pages : PageSet) (kinds : FaultSet) (off : Bool) (s : State) :
    SameContexts s (takeClearFaults p pages kinds off s) := by
  unfold takeClearFaults
  split
  · exact (SameRun.refuse ..).sameContexts
  · have cleared : SameContexts s (s.clearFaults pages kinds off) :=
      ⟨by unfold State.clearFaults; rfl, by simp, by simp⟩
    exact cleared.trans (SameRun.answer ..).sameContexts

theorem RecordsGuarded.takeStartCheck {s : State} (h : RecordsGuarded s) (p : PortId) (pages : PageSet)
    (q : StepRequest) : RecordsGuarded (takeStartCheck p pages q s) := by
  unfold Machine.takeStartCheck
  split
  · exact h.refuse ..
  · have accepted := h.of_sameContexts (.acceptCheck s p pages q)
    refine RecordsGuarded.answer ?_ ..
    split
    · exact accepted.of_served (endCheck_served _)
    · exact accepted

theorem RecordsGuarded.takeAbortCheck {s : State} (h : RecordsGuarded s) (p : PortId) :
    RecordsGuarded (takeAbortCheck p s) := by
  unfold Machine.takeAbortCheck
  split
  · exact h.refuse ..
  · have zeroed := h.of_sameRun (.zeroUnderTest s)
    exact ((zeroed.of_sameContexts (.modCheck ..)).of_served (endCheck_served _)).answer ..

/-! ### Resets -/

/-- The contexts of a port leave together and are freed; the members that stay are active (R173). -/
theorem RecordsGuarded.freedOf {s : State} (h : RecordsGuarded s) (q : PortId) : RecordsGuarded (s.freedOf q) := by
  have left : RecordsGuarded (s.withdraw (s.activeOwnedBy q)) := .withdraw h.records fun c hc _ => h.members c hc
  refine left.freeSlots fun c hc => ?_
  obtain ⟨hmem, hstays⟩ := State.mem_withdraw hc
  obtain ⟨k, hk, hactive⟩ := h.members c hmem
  simpa [State.activeOwnedBy, State.ownedBy, hk, hactive] using hstays

theorem RecordsGuarded.takePortReset {s : State} (h : RecordsGuarded s) (p : PortId) (target : Byte) :
    RecordsGuarded (takePortReset p target s) := by
  unfold Machine.takePortReset
  split
  · exact h.refuse ..
  · rename_i q _
    have reset : SameContexts (s.freedOf q) (s.resetPort p q) :=
      ⟨s.resetPort_contexts p q, s.resetPort_chain p q, s.resetPort_ready p q⟩
    exact (((h.freedOf q).of_sameContexts reset).answer ..).serviceIf _

/-- With every slot FREE there is no record and no member. -/
theorem RecordsGuarded.clearBlocks (s : State) : RecordsGuarded s.clearBlocks := by
  have free (c : ContextId) : s.clearBlocks.ctx c = none := replicate_get ..
  refine ⟨fun c hc => ?_, fun c k hk => ?_⟩
  · exact absurd hc (by simp [State.clearBlocks])
  · rw [free c] at hk
    cases hk

theorem RecordsGuarded.start (s : State) (straps : Vector Level 4) (ph : Phase) :
    RecordsGuarded (s.start straps ph) := by
  have same : SameContexts s.clearBlocks (s.start straps ph) := ⟨rfl, rfl, rfl⟩
  exact (RecordsGuarded.clearBlocks s).of_sameContexts same

theorem RecordsGuarded.takeDeviceRestart {s : State} (h : RecordsGuarded s) (p : PortId) :
    RecordsGuarded (takeDeviceRestart p s) := by
  unfold Machine.takeDeviceRestart
  split
  · exact h.refuse ..
  · have same : SameContexts s.dropCheck.clearBlocks (s.restart p) := ⟨rfl, rfl, rfl⟩
    exact ((RecordsGuarded.clearBlocks s.dropCheck).of_sameContexts same).answer ..

/-! ### Every command, every step -/

theorem RecordsGuarded.runCommand {s : State} (h : RecordsGuarded s) (i : Instr) : RecordsGuarded (runCommand i s) := by
  cases i with
  | portReset p target => exact h.takePortReset p target
  | deviceRestart p => exact h.takeDeviceRestart p
  | writeMap p entries => exact h.of_sameContexts (takeWriteMap_sameContexts p entries s)
  | clearFaults p pages kinds off => exact h.of_sameContexts (takeClearFaults_sameContexts p pages kinds off s)
  | defineContext p slot block => exact h.takeDefineContext p slot block
  | setParams p slot block => exact h.takeSetParams p slot block
  | clearContext p slot => exact h.takeClearContext p slot
  | freeContext p slot => exact h.takeFreeContext p slot
  | writeGate p gate present fields => exact h.takeWriteGate p gate present fields
  | invoke p gate => exact h.takeInvoke p gate
  | hold p slot => exact h.takeHold p slot
  | resume p slot => exact h.takeResume p slot
  | abort p slot => exact h.takeAbort p slot
  | startCheck p pages request => exact h.takeStartCheck p pages request
  | abortCheck p => exact h.takeAbortCheck p
  | _ => exact h.of_sameRun (runCommand_sameRun _ s rfl)

theorem RecordsGuarded.step {s t : State} (h : RecordsGuarded s) (hstep : step s = .next t) : RecordsGuarded t := by
  cases step_effect hstep with
  | quiet hsame => exact h.of_sameRun hsame
  | command i hsame => exact (h.of_sameRun hsame).runCommand i
  | service hsame => exact (h.of_sameRun hsame).servicePass
  | element f hsame => exact (h.of_sameRun hsame).elementStep f
  | reference o hsame => exact (h.of_sameRun hsame).of_served (completeReference_served _ o)
  | page o hsame => exact (h.of_sameRun hsame).of_served (completePage_served _ o)
  | pair o hsame => exact (h.of_sameRun hsame).of_served (completePair_served _ o)
  | start straps ph => exact .start _ straps ph

/-- Settles O56: the invariant `RecordsGuarded`, whose part about collections the run structure gives, is kept by each
effect that a step can have. -/
theorem stepsKeepRecordsFitting : Obligations.StepsKeepRecordsFitting :=
  fun _ _ hrun hfit hstep => (RecordsGuarded.step ⟨hrun.membersActive, hfit⟩ hstep).records

end Sys2Proof.Machine
end

section
/-! PROOFS. The reading of a parameter block: PARAM exactly on the conditions of R25, then RANGE exactly on a checked
address outside the window (R24, R26), and the block accepted. -/

namespace Sys2Proof.Machine

/-! ### The fields of a block -/

/-- A descriptor that R25 refuses. -/
def BadDescriptor (d : DescriptorFields) : Prop :=
  15 < d.page.toNat ∨ d.step.toInt = 0 ∨ d.step.toInt < -16 ∨ 16 < d.step.toInt

/-- A descriptor as its fields give it. -/
def GivenBy (d : Descriptor) (g : DescriptorFields) : Prop :=
  d.page.val = g.page.toNat ∧ d.offset.val = g.offset.toNat ∧ d.step = g.step.toInt

theorem parseDescriptor_eq_none {g : DescriptorFields} : parseDescriptor g = none ↔ BadDescriptor g := by
  unfold parseDescriptor BadDescriptor
  split
  · rename_i hpage
    have : 15 < g.page.toNat := indexOf_eq_none.mp hpage
    simp [this]
  · rename_i page hpage
    have : ¬15 < g.page.toNat := by
      have := indexOf_eq_some.mp hpage
      omega
    simp only [ite_eq_left_iff, reduceCtorEq, imp_false, not_not, this, false_or]

theorem GivenBy.of_parse {d : Descriptor} {g : DescriptorFields} (h : parseDescriptor g = some d) : GivenBy d g := by
  unfold parseDescriptor at h
  split at h
  · cases h
  · rename_i hpage
    split at h <;> cases h
    exact ⟨(indexOf_eq_some.mp hpage).symm, rfl, rfl⟩

theorem parseShift_eq_none {b : Byte} : parseShift b = none ↔ 31 < b.toNat := by
  unfold parseShift
  split <;> simp <;> omega

theorem parseShift_eq_some {b : Byte} {n : Nat} (h : parseShift b = some n) : n = b.toNat := by
  unfold parseShift at h
  split at h <;> cases h
  rfl

theorem parseTaps_eq_none {b : Byte} : parseTaps b = none ↔ b.toNat = 0 ∨ 64 < b.toNat := by
  unfold parseTaps
  split <;> simp <;> omega

theorem parseTaps_eq_some {b : Byte} {n : Nat} (h : parseTaps b = some n) : n = b.toNat ∧ 1 ≤ n := by
  unfold parseTaps at h
  split at h <;> cases h
  rename_i hbounds
  exact ⟨rfl, hbounds.left⟩

theorem parseRelation_eq_none {b : Byte} : parseRelation b = none ↔ 5 < b.toNat := by
  unfold parseRelation
  split <;> simp_all
  omega

theorem parseRelation_eq_some {b : Byte} {r : Relation} (h : parseRelation b = some r) :
    [Relation.lt, .le, .eq, .ne, .gt, .ge][b.toNat]? = some r := by
  unfold parseRelation at h
  split at h <;> cases h <;> rename_i hb <;> rw [hb] <;> rfl

/-! ### PARAM (R25) -/

/-- The operation code names an operation. -/
def CodeNamed (f : BlockFields) : Prop :=
  f.operation.toNat ∈ [0x01, 0x02, 0x03, 0x04, 0x05, 0x06, 0x07, 0x08, 0x09, 0x0A, 0x0B, 0x0C, 0x0D]

/-- A field that the operation uses fails R25, in the order in which the fields are read; `op` is the operation code. -/
def BadFields (f : BlockFields) : Prop :=
  let op : Nat := f.operation.toNat
  (op = 0x0D ∧ f.count.toNat ∉ reverseCounts) ∨
    (op ∈ [0x08, 0x09] ∧ parseTaps f.taps = none) ∨
    (op ∈ [0x04, 0x05, 0x07, 0x08, 0x09] ∧ parseShift f.shift = none) ∨
    (op ∈ [0x0A, 0x0B] ∧ parseRelation f.relation = none) ∨
    parseDescriptor f.x = none ∨
    (op ∈ [0x02, 0x03, 0x04, 0x07, 0x08, 0x09, 0x0A] ∧ parseDescriptor f.y = none) ∨
    (op ≠ 0x0D ∧ parseDescriptor f.z = none)

/-- A reading in two stages fails where the first does, or the second, which fails whatever the first gave. -/
theorem bind_eq_none_iff_or {α β : Type} {o : Option α} {g : α → Option β} {P : Prop} (h : ∀ a, g a = none ↔ P) :
    o.bind g = none ↔ o = none ∨ P := by
  cases o with
  | none => simp
  | some a => simp [h a]

/-- The fields are read in the order in which `BadFields` lists them, each only where the operation uses it. -/
theorem parseOperation_eq_none {f : BlockFields} : parseOperation f = none ↔ ¬CodeNamed f ∨ BadFields f := by
  have last {α : Type} {o : Option Descriptor} {g : Descriptor → α} :
      (o.bind fun a => some (g a)) = none ↔ o = none := by cases o <;> simp
  unfold parseOperation CodeNamed BadFields
  split <;> rename_i hop <;>
    simp only [hop, Option.pure_def, Option.bind_eq_bind, List.mem_cons, List.not_mem_nil, Nat.reduceEqDiff, or_false,
      false_or, or_true, not_true_eq_false, false_and, true_and, ne_eq, not_false_eq_true]
  case h_1 | h_6 | h_12 => exact bind_eq_none_iff_or fun _ => last
  case h_2 | h_3 | h_5 | h_11 => exact bind_eq_none_iff_or fun _ => bind_eq_none_iff_or fun _ => last
  case h_4 | h_7 | h_10 =>
    exact bind_eq_none_iff_or fun _ => bind_eq_none_iff_or fun _ => bind_eq_none_iff_or fun _ => last
  case h_8 | h_9 =>
    exact bind_eq_none_iff_or fun _ => bind_eq_none_iff_or fun _ => bind_eq_none_iff_or fun _ =>
      bind_eq_none_iff_or fun _ => last
  case h_13 =>
    split
    · rename_i hcount
      rw [last]
      exact ⟨Or.inr, fun h => h.resolve_left (not_not.mpr hcount)⟩
    · rename_i hcount
      exact iff_of_true rfl (Or.inl hcount)
  case h_14 =>
    refine iff_of_true trivial (Or.inl ?_)
    tauto

/-- The conditions of R25 on a block. -/
def BadBlock (f : BlockFields) : Prop :=
  ¬CodeNamed f ∨ 7 < f.priority.toNat ∨ f.count.toNat = 0 ∨ 4096 < f.count.toNat ∨ BadFields f

theorem parseBlock_eq_none {f : BlockFields} : parseBlock f = none ↔ BadBlock f := by
  have operation_first : BadBlock f ↔
      7 < f.priority.toNat ∨ parseOperation f = none ∨ f.count.toNat = 0 ∨ 4096 < f.count.toNat := by
    rw [parseOperation_eq_none, BadBlock]
    tauto
  rw [operation_first]
  unfold parseBlock
  split
  · rename_i priority operation hpriority hoperation
    have : ¬7 < f.priority.toNat := by
      have := indexOf_eq_some.mp hpriority
      omega
    simp only [hoperation, ite_eq_right_iff, reduceCtorEq, imp_false, false_or]
    omega
  · rename_i hnone
    refine iff_of_true rfl ?_
    by_contra hgood
    simp only [not_or] at hgood
    obtain ⟨hpriority, hoperation, -⟩ := hgood
    obtain ⟨operation, hoperation⟩ := Option.ne_none_iff_exists'.mp hoperation
    exact hnone ⟨f.priority.toNat, by omega⟩ operation (indexOf_eq_some.mpr rfl) hoperation

theorem parseBlock_eq_some {f : BlockFields} {b : Block} (h : parseBlock f = some b) :
    b.priority.val = f.priority.toNat ∧ b.mask = f.mask ∧ b.count = f.count.toNat ∧
      parseOperation f = some b.operation := by
  unfold parseBlock at h
  split at h
  · rename_i hpriority hoperation
    split at h <;> cases h
    exact ⟨(indexOf_eq_some.mp hpriority).symm, rfl, rfl, hoperation⟩
  · cases h

theorem checkBlock_eq_param {f : BlockFields} : checkBlock f = .error .param ↔ parseBlock f = none := by
  unfold checkBlock
  split
  · rename_i hnone
    simp [hnone]
  · rename_i b hb
    rw [hb]
    split <;> simp

theorem checkBlock_eq_range {f : BlockFields} {b : Block} (h : parseBlock f = some b) :
    checkBlock f = .error .range ↔ b.inRange = false := by
  unfold checkBlock
  rw [h]
  dsimp only
  split <;> simp_all

/-! ### The operation read (R23, 11.2) -/

/-- What a block is read as: the operation of its code, with the fields that the operation uses. -/
inductive ReadsAs (f : BlockFields) : Operation → Prop where
  | copy {x z : Descriptor} (hop : f.operation.toNat = 0x01) (hx : parseDescriptor f.x = some x)
      (hz : parseDescriptor f.z = some z) : ReadsAs f (.copy x z)
  | add {x y z : Descriptor} (hop : f.operation.toNat = 0x02) (hx : parseDescriptor f.x = some x)
      (hy : parseDescriptor f.y = some y) (hz : parseDescriptor f.z = some z) : ReadsAs f (.add x y z)
  | sub {x y z : Descriptor} (hop : f.operation.toNat = 0x03) (hx : parseDescriptor f.x = some x)
      (hy : parseDescriptor f.y = some y) (hz : parseDescriptor f.z = some z) : ReadsAs f (.sub x y z)
  | mulq {sh : Nat} {x y z : Descriptor} (hop : f.operation.toNat = 0x04) (hsh : parseShift f.shift = some sh)
      (hx : parseDescriptor f.x = some x) (hy : parseDescriptor f.y = some y) (hz : parseDescriptor f.z = some z) :
      ReadsAs f (.mulq sh x y z)
  | scale {sh : Nat} {x z : Descriptor} (hop : f.operation.toNat = 0x05) (hsh : parseShift f.shift = some sh)
      (hx : parseDescriptor f.x = some x) (hz : parseDescriptor f.z = some z) : ReadsAs f (.scale sh f.scalar x z)
  | offset {x z : Descriptor} (hop : f.operation.toNat = 0x06) (hx : parseDescriptor f.x = some x)
      (hz : parseDescriptor f.z = some z) : ReadsAs f (.offset f.scalar x z)
  | dot {sh : Nat} {x y z : Descriptor} (hop : f.operation.toNat = 0x07) (hsh : parseShift f.shift = some sh)
      (hx : parseDescriptor f.x = some x) (hy : parseDescriptor f.y = some y) (hz : parseDescriptor f.z = some z) :
      ReadsAs f (.dot sh x y z)
  | fir {m sh : Nat} {x y z : Descriptor} (hop : f.operation.toNat = 0x08) (hm : parseTaps f.taps = some m)
      (hsh : parseShift f.shift = some sh) (hx : parseDescriptor f.x = some x) (hy : parseDescriptor f.y = some y)
      (hz : parseDescriptor f.z = some z) : ReadsAs f (.fir m sh x y z)
  | firz {m sh : Nat} {x y z : Descriptor} (hop : f.operation.toNat = 0x09) (hm : parseTaps f.taps = some m)
      (hsh : parseShift f.shift = some sh) (hx : parseDescriptor f.x = some x) (hy : parseDescriptor f.y = some y)
      (hz : parseDescriptor f.z = some z) : ReadsAs f (.firz m sh x y z)
  | cmp {r : Relation} {x y z : Descriptor} (hop : f.operation.toNat = 0x0A)
      (hr : parseRelation f.relation = some r) (hx : parseDescriptor f.x = some x) (hy : parseDescriptor f.y = some y)
      (hz : parseDescriptor f.z = some z) : ReadsAs f (.cmp r f.magnitude x y z)
  | cmps {r : Relation} {x z : Descriptor} (hop : f.operation.toNat = 0x0B)
      (hr : parseRelation f.relation = some r) (hx : parseDescriptor f.x = some x)
      (hz : parseDescriptor f.z = some z) : ReadsAs f (.cmps r f.magnitude f.scalar x z)
  | peak {x z : Descriptor} (hop : f.operation.toNat = 0x0C) (hx : parseDescriptor f.x = some x)
      (hz : parseDescriptor f.z = some z) : ReadsAs f (.peak x z)
  | reverse {x : Descriptor} (hop : f.operation.toNat = 0x0D) (hx : parseDescriptor f.x = some x) :
      ReadsAs f (.reverse x)

theorem ReadsAs.of_parse {f : BlockFields} {o : Operation} (h : parseOperation f = some o) : ReadsAs f o := by
  unfold parseOperation at h
  split at h <;> rename_i hop <;>
    simp only [Option.pure_def, Option.bind_eq_bind, Option.bind_eq_some_iff, Option.some.injEq, reduceCtorEq] at h
  case h_1 => obtain ⟨x, hx, z, hz, rfl⟩ := h; exact .copy hop hx hz
  case h_2 => obtain ⟨x, hx, y, hy, z, hz, rfl⟩ := h; exact .add hop hx hy hz
  case h_3 => obtain ⟨x, hx, y, hy, z, hz, rfl⟩ := h; exact .sub hop hx hy hz
  case h_4 => obtain ⟨sh, hsh, x, hx, y, hy, z, hz, rfl⟩ := h; exact .mulq hop hsh hx hy hz
  case h_5 => obtain ⟨sh, hsh, x, hx, z, hz, rfl⟩ := h; exact .scale hop hsh hx hz
  case h_6 => obtain ⟨x, hx, z, hz, rfl⟩ := h; exact .offset hop hx hz
  case h_7 => obtain ⟨sh, hsh, x, hx, y, hy, z, hz, rfl⟩ := h; exact .dot hop hsh hx hy hz
  case h_8 => obtain ⟨m, hm, sh, hsh, x, hx, y, hy, z, hz, rfl⟩ := h; exact .fir hop hm hsh hx hy hz
  case h_9 => obtain ⟨m, hm, sh, hsh, x, hx, y, hy, z, hz, rfl⟩ := h; exact .firz hop hm hsh hx hy hz
  case h_10 => obtain ⟨r, hr, x, hx, y, hy, z, hz, rfl⟩ := h; exact .cmp hop hr hx hy hz
  case h_11 => obtain ⟨r, hr, x, hx, z, hz, rfl⟩ := h; exact .cmps hop hr hx hz
  case h_12 => obtain ⟨x, hx, z, hz, rfl⟩ := h; exact .peak hop hx hz
  case h_13 =>
    split at h
    · obtain ⟨x, hx, h⟩ := Option.bind_eq_some_iff.mp h
      cases h
      exact .reverse hop hx
    · cases h

/-! ### RANGE (R24, R26) -/

/-- An address base + k × step of the array of a descriptor lies outside the window, for an index from first to last. -/
def Outside (g : DescriptorFields) (first last : Int) : Prop :=
  ∃ k : Int, first ≤ k ∧ k ≤ last ∧
    ¬(0 ≤ (g.page.toNat * 256 + g.offset.toNat : Int) + k * g.step.toInt ∧
      (g.page.toNat * 256 + g.offset.toNat : Int) + k * g.step.toInt ≤ 4095)

/-- The test of R26 on an operand fails exactly where one of its addresses lies outside the window. -/
theorem Operand.inRange_eq_false_iff {g : DescriptorFields} {d : Descriptor} (h : parseDescriptor g = some d)
    {first last : Int} {count : Nat} (hcount : 1 ≤ count) (hlast : last = first + count - 1) (writes : Bool) :
    (Operand.mk d first count writes).inRange = false ↔ Outside g first last := by
  obtain ⟨hpage, hoffset, hstep⟩ := GivenBy.of_parse h
  have exact_eq (k : Int) : d.exactAddress k = (g.page.toNat * 256 + g.offset.toNat : Int) + k * g.step.toInt := by
    unfold Descriptor.exactAddress Descriptor.base
    rw [hpage, hoffset, hstep]
    push_cast
    rfl
  rw [Bool.eq_false_iff, Ne, Operand.inRange_iff _ hcount]
  push Not
  simp only [exact_eq]
  constructor
  · rintro ⟨j, hj, hout⟩
    exact ⟨first + j, by omega, by omega, fun hin => absurd hin.right (by have := hout hin.left; omega)⟩
  · rintro ⟨k, hfirst, hk, hout⟩
    refine ⟨(k - first).toNat, by omega, fun hlow => ?_⟩
    rw [show first + ((k - first).toNat : Int) = k by omega] at hlow ⊢
    by_contra hhigh
    exact hout ⟨hlow, by omega⟩

/-- The index ranges of R24's table, by the operation code. -/
def BlockOutside (f : BlockFields) : Prop :=
  let op : Nat := f.operation.toNat
  let N : Int := f.count.toNat
  let M : Int := f.taps.toNat
  (op ≠ 0x08 ∧ Outside f.x 0 (N - 1)) ∨ (op = 0x08 ∧ Outside f.x (-(M - 1)) (N - 1)) ∨
    (op ∈ [0x02, 0x03, 0x04, 0x07, 0x0A] ∧ Outside f.y 0 (N - 1)) ∨ (op ∈ [0x08, 0x09] ∧ Outside f.y 0 (M - 1)) ∨
    (op ∈ [0x01, 0x02, 0x03, 0x04, 0x05, 0x06, 0x08, 0x09] ∧ Outside f.z 0 (N - 1)) ∨
    (op = 0x07 ∧ Outside f.z 0 0) ∨ (op ∈ [0x0A, 0x0B] ∧ Outside f.z 0 N) ∨ (op = 0x0C ∧ Outside f.z 0 1)

theorem operands_inRange_eq_false_iff {f : BlockFields} {o : Operation} (h : ReadsAs f o)
    (hcount : 1 ≤ f.count.toNat) : (o.operands f.count.toNat).all Operand.inRange = false ↔ BlockOutside f := by
  have elements {g : DescriptorFields} {d : Descriptor} (hd : parseDescriptor g = some d) (w : Bool) :
      (Operand.mk d 0 f.count.toNat w).inRange = false ↔ Outside g 0 (f.count.toNat - 1) :=
    Operand.inRange_eq_false_iff hd hcount (by omega) w
  have taps {g : DescriptorFields} {d : Descriptor} {m : Nat} (hm : parseTaps f.taps = some m)
      (hd : parseDescriptor g = some d) : (Operand.mk d 0 m false).inRange = false ↔ Outside g 0 (f.taps.toNat - 1) := by
    obtain ⟨rfl, hpositive⟩ := parseTaps_eq_some hm
    exact Operand.inRange_eq_false_iff hd hpositive (by omega) false
  have history {g : DescriptorFields} {d : Descriptor} {m : Nat} (hm : parseTaps f.taps = some m)
      (hd : parseDescriptor g = some d) :
      (Operand.mk d (-((m - 1 : Nat) : Int)) (f.count.toNat + (m - 1)) false).inRange = false ↔
        Outside g (-(f.taps.toNat - 1)) (f.count.toNat - 1) := by
    obtain ⟨rfl, hpositive⟩ := parseTaps_eq_some hm
    rw [show (-(f.taps.toNat - 1) : Int) = -((f.taps.toNat - 1 : Nat) : Int) by omega]
    exact Operand.inRange_eq_false_iff hd (by omega) (by omega) false
  have one {g : DescriptorFields} {d : Descriptor} (hd : parseDescriptor g = some d) :
      (Operand.mk d 0 1 true).inRange = false ↔ Outside g 0 0 := Operand.inRange_eq_false_iff hd le_rfl rfl true
  have two {g : DescriptorFields} {d : Descriptor} (hd : parseDescriptor g = some d) :
      (Operand.mk d 0 2 true).inRange = false ↔ Outside g 0 1 := Operand.inRange_eq_false_iff hd (by omega) rfl true
  have hits {g : DescriptorFields} {d : Descriptor} (hd : parseDescriptor g = some d) :
      (Operand.mk d 0 (f.count.toNat + 1) true).inRange = false ↔ Outside g 0 f.count.toNat :=
    Operand.inRange_eq_false_iff hd (by omega) (by omega) true
  unfold BlockOutside
  cases h <;> simp only [Operation.operands, List.all_cons, List.all_nil, Bool.and_true, Bool.and_eq_false_iff]
  case copy hop hx hz | scale hop _ hx hz | offset hop hx hz => simp [hop, elements hx, elements hz]
  case add hop hx hy hz | sub hop hx hy hz | mulq hop _ hx hy hz => simp [hop, elements hx, elements hy, elements hz]
  case dot hop _ hx hy hz => simp [hop, elements hx, elements hy, one hz]
  case fir hop hm _ hx hy hz => simp [hop, history hm hx, taps hm hy, elements hz]
  case firz hop hm _ hx hy hz => simp [hop, elements hx, taps hm hy, elements hz]
  case cmp hop _ hx hy hz => simp [hop, elements hx, elements hy, hits hz]
  case cmps hop _ hx hz => simp [hop, elements hx, hits hz]
  case peak hop hx hz => simp [hop, elements hx, two hz]
  case reverse hop hx => simp [hop, elements hx]

/-! ### The block accepted -/

/-- What a block that parses says of its operation: the one of its code in the table of 11.2, with the fields given. -/
def OperationGiven (f : BlockFields) (o : Operation) : Prop :=
  let op : Nat := f.operation.toNat
  let sh : Nat := f.shift.toNat
  ∃ x y z : Descriptor, ∃ rel : Relation, GivenBy x f.x ∧
    (op ∈ [0x02, 0x03, 0x04, 0x07, 0x08, 0x09, 0x0A] → GivenBy y f.y) ∧ (op ≠ 0x0D → GivenBy z f.z) ∧
    (op ∈ [0x0A, 0x0B] → [Relation.lt, .le, .eq, .ne, .gt, .ge][f.relation.toNat]? = some rel) ∧
    [Operation.copy x z, .add x y z, .sub x y z, .mulq sh x y z, .scale sh f.scalar x z, .offset f.scalar x z,
      .dot sh x y z, .fir f.taps.toNat sh x y z, .firz f.taps.toNat sh x y z, .cmp rel f.magnitude x y z,
      .cmps rel f.magnitude f.scalar x z, .peak x z, .reverse x][op - 1]? = some o

theorem ReadsAs.given {f : BlockFields} {o : Operation} (h : ReadsAs f o) : OperationGiven f o := by
  unfold OperationGiven
  cases h with
  | @copy x z hop hx hz | @offset x z hop hx hz | @peak x z hop hx hz =>
    refine ⟨x, x, z, .lt, .of_parse hx, by simp [hop], fun _ => .of_parse hz, by simp [hop], ?_⟩
    rw [hop]
    rfl
  | @add x y z hop hx hy hz | @sub x y z hop hx hy hz =>
    refine ⟨x, y, z, .lt, .of_parse hx, fun _ => .of_parse hy, fun _ => .of_parse hz, by simp [hop], ?_⟩
    rw [hop]
    rfl
  | @mulq sh x y z hop hsh hx hy hz | @dot sh x y z hop hsh hx hy hz =>
    refine ⟨x, y, z, .lt, .of_parse hx, fun _ => .of_parse hy, fun _ => .of_parse hz, by simp [hop], ?_⟩
    rw [hop, parseShift_eq_some hsh]
    rfl
  | @scale sh x z hop hsh hx hz =>
    refine ⟨x, x, z, .lt, .of_parse hx, by simp [hop], fun _ => .of_parse hz, by simp [hop], ?_⟩
    rw [hop, parseShift_eq_some hsh]
    rfl
  | @fir m sh x y z hop hm hsh hx hy hz | @firz m sh x y z hop hm hsh hx hy hz =>
    obtain ⟨rfl, -⟩ := parseTaps_eq_some hm
    refine ⟨x, y, z, .lt, .of_parse hx, fun _ => .of_parse hy, fun _ => .of_parse hz, by simp [hop], ?_⟩
    rw [hop, parseShift_eq_some hsh]
    rfl
  | @cmp r x y z hop hr hx hy hz =>
    refine ⟨x, y, z, r, .of_parse hx, fun _ => .of_parse hy, fun _ => .of_parse hz,
      fun _ => parseRelation_eq_some hr, ?_⟩
    rw [hop]
    rfl
  | @cmps r x z hop hr hx hz =>
    refine ⟨x, x, z, r, .of_parse hx, by simp [hop], fun _ => .of_parse hz, fun _ => parseRelation_eq_some hr, ?_⟩
    rw [hop]
    rfl
  | @reverse x hop hx =>
    refine ⟨x, x, x, .lt, .of_parse hx, by simp [hop], fun hne => absurd hop hne, by simp [hop], ?_⟩
    rw [hop]
    rfl

/-- The conditions of R25 as the manual words them. -/
theorem checkBlock_param_iff (f : BlockFields) :
    checkBlock f = .error .param ↔ BadBlock f := checkBlock_eq_param.trans parseBlock_eq_none

/-- RANGE on a block that parses. -/
theorem checkBlock_range_iff {f : BlockFields} (h : checkBlock f ≠ .error .param) :
    (checkBlock f = .error .range ↔ BlockOutside f) ∧
      (checkBlock f ≠ .error .range → ∃ b, checkBlock f = .ok b) := by
  obtain ⟨b, hb⟩ := Option.ne_none_iff_exists'.mp (mt checkBlock_eq_param.mpr h)
  obtain ⟨-, -, hcount, hoperation⟩ := parseBlock_eq_some hb
  obtain ⟨hpositive, -⟩ := parseBlock_count hb
  refine ⟨?_, fun hne => ⟨b, checkBlock_eq_ok.mpr ⟨hb, ?_⟩⟩⟩
  · rw [checkBlock_eq_range hb, Block.inRange, Block.operands, hcount]
    exact operands_inRange_eq_false_iff (.of_parse hoperation) (hcount ▸ hpositive)
  · exact Bool.not_eq_false _ ▸ mt (checkBlock_eq_range hb).mpr hne

/-- Settles O18: the parsers fail exactly on the conditions of R25, and the range test of R26 on the two extreme indices
of each operand stands for every index between them. -/
theorem blockIsCheckedForParamAndRange : Obligations.BlockIsCheckedForParamAndRange := by
  refine ⟨fun f => ?_, fun o => o.inRange_iff, fun f hparam => checkBlock_range_iff hparam, fun f b hb => ?_⟩
  · rw [checkBlock_param_iff]
    simp only [BadBlock, BadFields, parseDescriptor_eq_none, parseShift_eq_none, parseTaps_eq_none,
      parseRelation_eq_none]
    rfl
  · obtain ⟨hparse, -⟩ := checkBlock_eq_ok.mp hb
    obtain ⟨hpriority, hmask, hcount, hoperation⟩ := parseBlock_eq_some hparse
    exact ⟨hpriority, hmask, hcount, (ReadsAs.of_parse hoperation).given⟩

end Sys2Proof.Machine
end

section
/-! PROOFS. The commands that write a context: DEFINE_CONTEXT (R32, R33), SET_PARAMS (R34, R35), CLEAR_CONTEXT (R37) and
FREE_CONTEXT (R39, R40, R136). -/

namespace Sys2Proof.Machine

/-! ### Rules shared by the four commands -/

theorem ContextState.isActive_of_mem {st : ContextState} (h : st ∈ [.ready, .running, .preempted, .held]) :
    st.isActive = true := by
  cases st <;> simp_all [ContextState.isActive]

theorem ContextState.inactive_of_mem {st : ContextState} (h : st ∈ [.idle, .done, .faulted]) :
    st.isActive = false := by
  cases st <;> simp_all [ContextState.isActive]

/-- The rewriting of a defined slot's record, written out. -/
theorem State.modCtx_of_some {s : State} {c : ContextId} {k : Context} (h : s.ctx c = some k) (f : Context → Context) :
    s.modCtx c f = { s with contexts := update s.contexts c (some (f k)) } := by
  rw [State.modCtx, h]
  rfl

theorem State.ownerOrLevel0_iff {s : State} {p : PortId} {k : Context} :
    s.ownerOrLevel0 p k = true ↔ k.owner = p ∨ s.level p = 0 := by
  simp [State.ownerOrLevel0]

/-- Checks 1 to 3 of R34, R37 and R39. -/
theorem checkOwned_outcomes (p : PortId) (slot : Byte) (s : State) :
    (31 < slot.toNat → checkOwned p slot s = .error .param) ∧
    ∀ c : ContextId, slot.toNat = c.val →
      (s.ctx c = none → checkOwned p slot s = .error .noContext) ∧
      ∀ k, s.ctx c = some k →
        (k.owner ≠ p ∧ s.level p ≠ 0 → checkOwned p slot s = .error .denied) ∧
        (k.owner = p ∨ s.level p = 0 → checkOwned p slot s = .ok (c, k)) := by
  unfold checkOwned
  refine ⟨fun hslot => ?_, fun c hc => ?_⟩
  · rw [indexOf_eq_none.mpr hslot]
  · rw [indexOf_eq_some.mpr hc]
    dsimp only
    refine ⟨fun hfree => by rw [hfree], fun k hk => ?_⟩
    rw [hk]
    dsimp only
    rw [← State.ownerOrLevel0_iff, ← not_or, ← State.ownerOrLevel0_iff]
    exact ⟨fun hno => if_neg hno, fun hyes => if_pos hyes⟩

/-- A command of a context that its owner or a level-0 port issues: the refusals of checks 1 to 3, and whatever follows
where they pass. -/
theorem owned_outcomes {p : PortId} {slot : Byte} {s : State} {code : Byte} {run : Outcome}
    {P : ContextId → Context → Prop}
    (herror : ∀ st, checkOwned p slot s = .error st → run = .next (s.answer p code st []))
    (hok : ∀ c k, s.ctx c = some k → checkOwned p slot s = .ok (c, k) → P c k) :
    (31 < slot.toNat → run = .next (s.answer p code .param [])) ∧
    ∀ c : ContextId, slot.toNat = c.val →
      (s.ctx c = none → run = .next (s.answer p code .noContext [])) ∧
      ∀ k, s.ctx c = some k →
        (k.owner ≠ p ∧ s.level p ≠ 0 → run = .next (s.answer p code .denied [])) ∧
        (k.owner = p ∨ s.level p = 0 → P c k) := by
  obtain ⟨noSlot, slots⟩ := checkOwned_outcomes p slot s
  refine ⟨fun hslot => herror _ (noSlot hslot), fun c hc => ?_⟩
  obtain ⟨free, defined⟩ := slots c hc
  refine ⟨fun hfree => herror _ (free hfree), fun k hk => ?_⟩
  obtain ⟨denied, owned⟩ := defined k hk
  exact ⟨fun hno => herror _ (denied hno), fun hyes => hok c k hk (owned hyes)⟩

/-! ### DEFINE_CONTEXT -/

/-- The checks of R32. -/
theorem checkDefine_outcomes (slot : Byte) (f : BlockFields) (s : State) :
    (31 < slot.toNat → checkDefine slot f s = .error .param) ∧
    ∀ c : ContextId, slot.toNat = c.val →
      (s.ctx c ≠ none → checkDefine slot f s = .error .state) ∧
      (s.ctx c = none →
        (∀ st, checkBlock f = .error st → checkDefine slot f s = .error st) ∧
        ∀ b, checkBlock f = .ok b → checkDefine slot f s = .ok (c, b)) := by
  unfold checkDefine
  refine ⟨fun hslot => ?_, fun c hc => ?_⟩
  · rw [indexOf_eq_none.mpr hslot]
  · rw [indexOf_eq_some.mpr hc]
    dsimp only
    refine ⟨fun hdefined => ?_, fun hfree => ?_⟩
    · obtain ⟨k, hk⟩ := Option.ne_none_iff_exists'.mp hdefined
      rw [hk]
    · rw [hfree]
      exact ⟨fun st hst => by rw [hst], fun b hb => by rw [hb]⟩

/-- Settles O19: the command answers what `checkDefine` finds, and fills the slot where it finds a block. -/
theorem defineContextFillsAFreeSlot : Obligations.DefineContextFillsAFreeSlot := by
  intro p slot f s htakes run
  have hrun : run = .next (takeDefineContext p slot f s) := exec_of_takes rfl htakes
  have refused {st : Status} (h : checkDefine slot f s = .error st) : run = .next (s.answer p 0x20 st []) := by
    rw [hrun, takeDefineContext, h]
    rfl
  obtain ⟨noSlot, slots⟩ := checkDefine_outcomes slot f s
  refine ⟨fun hslot => refused (noSlot hslot), fun c hc => ?_⟩
  obtain ⟨defined, free⟩ := slots c hc
  refine ⟨fun hdefined => refused (defined hdefined), fun hfree => ?_⟩
  obtain ⟨badBlock, block⟩ := free hfree
  refine ⟨fun st hst => refused (badBlock st hst), fun b hb => ?_⟩
  rw [hrun, takeDefineContext, block b hb]
  rfl

/-! ### SET_PARAMS -/

/-- Settles O20: the shared checks, BUSY, then the block; the record is rewritten where all pass. -/
theorem setParamsReplacesTheBlock : Obligations.SetParamsReplacesTheBlock := by
  intro p slot f s htakes run
  have hrun : run = .next (takeSetParams p slot f s) := exec_of_takes rfl htakes
  have refused {st : Status} (h : checkSetParams p slot f s = .error st) : run = .next (s.answer p 0x20 st []) := by
    rw [hrun, takeSetParams, h]
    rfl
  refine owned_outcomes (fun st hst => refused (by rw [checkSetParams, hst])) fun c k hk hok =>
    ⟨fun hactive => refused ?_, fun hinactive => ?_⟩
  · simp [checkSetParams, hok, ContextState.isActive_of_mem hactive]
  · have hstate := ContextState.inactive_of_mem hinactive
    refine ⟨fun st hst => refused (by simp [checkSetParams, hok, hstate, hst]), fun b hb => ?_⟩
    have passed : checkSetParams p slot f s = .ok (c, b) := by simp [checkSetParams, hok, hstate, hb]
    rw [hrun, takeSetParams, passed]
    dsimp only
    rw [State.modCtx_of_some hk]
    rfl

/-! ### CLEAR_CONTEXT -/

theorem clearContext_outcomes (p : PortId) (slot : Byte) (s : State) (htakes : s.takes p) :
    let run : Outcome := exec (.clearContext p slot) s
    (31 < slot.toNat → run = .next (s.answer p 0x22 .param [])) ∧
    ∀ c : ContextId, slot.toNat = c.val →
      (s.ctx c = none → run = .next (s.answer p 0x22 .noContext [])) ∧
      ∀ k, s.ctx c = some k →
        (k.owner ≠ p ∧ s.level p ≠ 0 → run = .next (s.answer p 0x22 .denied [])) ∧
        (k.owner = p ∨ s.level p = 0 →
          (k.state ∈ [.ready, .running, .preempted, .held] → run = .next (s.answer p 0x22 .busy [])) ∧
          (k.state = .idle → run = .next (s.answer p 0x22 .state [])) ∧
          (k.state ∈ [.done, .faulted] →
            run = .next ((({ s with contexts := update s.contexts c (some k.cleared) } : State).servicePass).answer p
              0x22 .ok []))) := by
  intro run
  have hrun : run = .next (takeClearContext p slot s) := exec_of_takes rfl htakes
  have refused {st : Status} (h : checkClearContext p slot s = .error st) : run = .next (s.answer p 0x22 st []) := by
    rw [hrun, takeClearContext, h]
    rfl
  refine owned_outcomes (fun st hst => refused (by rw [checkClearContext, hst])) fun c k hk hok =>
    ⟨fun hactive => refused ?_, fun hidle => refused ?_, fun hended => ?_⟩
  · simp [checkClearContext, hok, ContextState.isActive_of_mem hactive]
  · simp [checkClearContext, hok, hidle, ContextState.isActive]
  · have hinactive : k.state.isActive = false := ContextState.inactive_of_mem (List.mem_cons_of_mem _ hended)
    have hnot : k.state ≠ .idle := by
      intro hidle
      simp [hidle] at hended
    have passed : checkClearContext p slot s = .ok c := by simp [checkClearContext, hok, hinactive, hnot]
    rw [hrun, takeClearContext, passed, ← State.modCtx_of_some hk Context.cleared]

/-! ### FREE_CONTEXT -/

/-- What the freeing of one slot changes (R40, R136). -/
theorem State.freeSlots_one (s : State) (c : ContextId) :
    (∀ d, (s.freeSlots (· = c)).ctx d = if d = c then none else s.ctx d) ∧
    (∀ q, (s.freeSlots (· = c)).eventsAt q =
        { s.eventsAt q with completions := ((s.freeSlots (· = c)).eventsAt q).completions } ∧
      ∀ d : ContextId, ((s.freeSlots (· = c)).eventsAt q).completions[d] =
        if d = c then none else (s.eventsAt q).completions[d]) ∧
    ∀ l, (s.freeSlots (· = c)).line l =
      { s.line l with lastStarted := if (s.line l).lastStarted = some c then none else (s.line l).lastStarted } := by
  refine ⟨fun d => ?_, fun q => ⟨?_, fun d => ?_⟩, fun l => ?_⟩
  · simp [State.freeSlots_ctx]
  · rw [State.freeSlots_eventsAt]
  · rw [State.freeSlots_eventsAt]
    dsimp only
    rw [ofFn_get]
    simp
  · rw [State.freeSlots_line]
    cases (s.line l).lastStarted with
    | none => rfl
    | some d => by_cases hd : d = c <;> simp [hd]

theorem freeContext_outcomes (p : PortId) (slot : Byte) (s : State) (htakes : s.takes p) :
    let run : Outcome := exec (.freeContext p slot) s
    (31 < slot.toNat → run = .next (s.answer p 0x23 .param [])) ∧
    ∀ c : ContextId, slot.toNat = c.val →
      (s.ctx c = none → run = .next (s.answer p 0x23 .noContext [])) ∧
      ∀ k, s.ctx c = some k →
        (k.owner ≠ p ∧ s.level p ≠ 0 → run = .next (s.answer p 0x23 .denied [])) ∧
        (k.owner = p ∨ s.level p = 0 →
          (k.state ∈ [.ready, .running, .preempted, .held] → run = .next (s.answer p 0x23 .busy [])) ∧
          (k.state ∈ [.idle, .done, .faulted] →
            run = .next ((s.freeSlots (· = c)).answer p 0x23 .ok []))) := by
  intro run
  have hrun : run = .next (takeFreeContext p slot s) := exec_of_takes rfl htakes
  have refused {st : Status} (h : checkFreeContext p slot s = .error st) : run = .next (s.answer p 0x23 st []) := by
    rw [hrun, takeFreeContext, h]
    rfl
  refine owned_outcomes (fun st hst => refused (by rw [checkFreeContext, hst])) fun c k hk hok =>
    ⟨fun hactive => refused ?_, fun hinactive => ?_⟩
  · simp [checkFreeContext, hok, ContextState.isActive_of_mem hactive]
  · have passed : checkFreeContext p slot s = .ok c := by
      simp [checkFreeContext, hok, ContextState.inactive_of_mem hinactive]
    rw [hrun, takeFreeContext, passed]

/-- Settles O21: both commands follow the shared checks; the freed state is read entry by entry. -/
theorem clearAndFreeContext : Obligations.ClearAndFreeContext := by
  refine ⟨clearContext_outcomes, ?_⟩
  intro p slot s htakes run
  obtain ⟨noSlot, slots⟩ := freeContext_outcomes p slot s htakes
  refine ⟨noSlot, fun c hc => ?_⟩
  obtain ⟨free, defined⟩ := slots c hc
  refine ⟨free, fun k hk => ?_⟩
  obtain ⟨denied, owned⟩ := defined k hk
  refine ⟨denied, fun hyes => ?_⟩
  obtain ⟨busy, freed⟩ := owned hyes
  have frame : s.freeSlots (· = c) =
      { s with
        contexts := (s.freeSlots (· = c)).contexts
        events := (s.freeSlots (· = c)).events
        lines := (s.freeSlots (· = c)).lines } := by
    unfold State.freeSlots
    rfl
  exact ⟨busy, fun hinactive => ⟨_, freed hinactive, frame, s.freeSlots_one c⟩⟩

end Sys2Proof.Machine
end

section
/-! PROOFS. The refusals of INVOKE in the order of R53, the operands of the operations (R24), and the span (R41). -/

namespace Sys2Proof.Machine

/-! ### The ten checks (R53) -/

/-- With the gate found, the invoker admitted and the context inactive and not FAULTED, checks 6 to 10 are left. -/
theorem State.checkInvocation_eq_checkPlacement {s : State} {g : Gate} {who : Starter} {k : Context}
    (hadmits : s.admits g who = true) (hk : s.ctx g.context = some k) (hstate : k.state ∈ [.idle, .done]) :
    s.checkInvocation (some g) who = s.checkPlacement g k.owner k.block := by
  have hnot : k.state ≠ .faulted ∧ k.state.isActive = false := by
    simp only [List.mem_cons, List.not_mem_nil, or_false] at hstate
    rcases hstate with h | h <;> rw [h] <;> exact ⟨nofun, rfl⟩
  obtain ⟨hfaulted, hinactive⟩ := hnot
  simp [State.checkInvocation, hadmits, hk, hfaulted, hinactive]

/-- Checks 6 to 10, each in the words of the manual. -/
theorem State.checkPlacement_refusals (s : State) (g : Gate) (owner : PortId) (b : Block) :
    (g.kind = .nest → 4 ≤ s.chain.length → s.checkPlacement g owner b = .error .nestDepth) ∧
    (g.kind = .queue ∨ s.chain.length < 4 →
      (s.offline = true → s.checkPlacement g owner b = .error .offline) ∧
      (s.offline = false →
        (s.accessGiven owner b = false → s.checkPlacement g owner b = .error .mapAccess) ∧
        (s.accessGiven owner b = true →
          ((∃ y ∈ s.span owner b, s.carriesFault y = true) → s.checkPlacement g owner b = .error .pageFault) ∧
          ((∀ y ∈ s.span owner b, s.carriesFault y = false) → (∃ y ∈ s.span owner b, s.heldMark y = true) →
            s.checkPlacement g owner b = .error .pageHeld)))) := by
  unfold State.checkPlacement
  refine ⟨fun hnest hdeep => if_pos ⟨hnest, hdeep⟩, fun hroom => ?_⟩
  have room : ¬(g.kind = .nest ∧ Config.chainDepth ≤ s.chain.length) := by
    rintro ⟨hnest, hdeep⟩
    rcases hroom with hqueue | hshort
    · rw [hqueue] at hnest
      cases hnest
    · exact absurd hdeep (Nat.not_le.mpr hshort)
  rw [if_neg room]
  refine ⟨fun hoff => if_pos hoff, fun hon => ⟨fun hno => ?_, fun hyes => ⟨fun hfault => ?_, fun hclean hheld => ?_⟩⟩⟩
  · simp [hon, hno]
  · simp [hon, hyes, List.any_eq_true.mpr hfault]
  · have clean : (s.span owner b).any s.carriesFault = false := by simpa using hclean
    simp [hon, hyes, clean, List.any_eq_true.mpr hheld]

theorem invoke_refused {p : PortId} {gate : Byte} {s : State} (htakes : s.takes p) {st : Status}
    (h : s.checkInvocation (s.gateNamed gate) (.port p) = .error st) :
    exec (.invoke p gate) s = .next (s.answer p 0x32 st []) := by
  have hrun : exec (.invoke p gate) s = .next (takeInvoke p gate s) := exec_of_takes rfl htakes
  rw [hrun, takeInvoke, h]
  rfl

theorem State.gateNamed_of_eq {s : State} {gate : Byte} {x : GateId} (h : gate.toNat = x.val) :
    s.gateNamed gate = s.gate x := by
  rw [State.gateNamed, indexOf_eq_some.mpr h]

/-- The first part of O24. -/
theorem invoke_refusals (p : PortId) (gate : Byte) (s : State) (htakes : s.takes p) :
    let refused : Status → Prop := fun st => exec (.invoke p gate) s = .next (s.answer p 0x32 st [])
    (63 < gate.toNat → refused .noGate) ∧
    ∀ x : GateId, gate.toNat = x.val →
      (s.gate x = none → refused .noGate) ∧
      ∀ g, s.gate x = some g →
        (g.level < s.level p → refused .denied) ∧
        (s.level p ≤ g.level →
          (s.ctx g.context = none → refused .noContext) ∧
          ∀ k, s.ctx g.context = some k →
            (k.state = .faulted → refused .ctxFaulted) ∧
            (k.state ∈ [.ready, .running, .preempted, .held] → refused .busy) ∧
            (k.state ∈ [.idle, .done] →
              ∀ st, s.checkPlacement g k.owner k.block = .error st → refused st)) := by
  intro refused
  have none_named (h : s.gateNamed gate = none) : refused .noGate := invoke_refused htakes (by rw [h]; rfl)
  refine ⟨fun hgate => none_named ?_, fun x hx => ⟨fun habsent => none_named ?_, fun g hg => ?_⟩⟩
  · rw [State.gateNamed, indexOf_eq_none.mpr hgate]
  · rw [State.gateNamed_of_eq hx, habsent]
  · have named {st : Status} (h : s.checkInvocation (some g) (.port p) = .error st) : refused st :=
      invoke_refused htakes (by rw [State.gateNamed_of_eq hx, hg, h])
    refine ⟨fun hlevel => named ?_, fun hlevel => ?_⟩
    · simp [State.checkInvocation, State.admits, hlevel]
    · have hadmits : s.admits g (.port p) = true := decide_eq_true hlevel
      refine ⟨fun hfree => named ?_, fun k hk => ⟨fun hfaulted => named ?_, fun hactive => named ?_,
        fun hstate st hst => named ?_⟩⟩
      · simp [State.checkInvocation, hadmits, hfree]
      · simp [State.checkInvocation, hadmits, hk, hfaulted]
      · have hnot : k.state ≠ .faulted := by
          intro hfaulted
          simp [hfaulted] at hactive
        simp [State.checkInvocation, hadmits, hk, hnot, ContextState.isActive_of_mem hactive]
      · rw [State.checkInvocation_eq_checkPlacement hadmits hk hstate, hst]

/-! ### Access and span (R41) -/

/-- A checked address of the operand lies in a logical page. -/
def Operand.Reached (o : Operand) (l : LogicalPage) : Prop :=
  ∃ j : Nat, j < o.count ∧
    (l.val * 256 : Int) ≤ o.descriptor.page.val * 256 + o.descriptor.offset.val + (o.first + j) * o.descriptor.step ∧
    (o.descriptor.page.val * 256 + o.descriptor.offset.val : Int) + (o.first + j) * o.descriptor.step <
      (l.val + 1) * 256

theorem Operand.reaches_iff_reached {o : Operand} (h : o.inRange = true) (l : LogicalPage) :
    o.reaches l = true ↔ o.Reached l := by
  rw [o.reaches_iff l h]
  simp only [Operand.Reached, Descriptor.exactAddress, Descriptor.base]
  push_cast
  rfl

theorem Block.operand_inRange {b : Block} (h : b.inRange = true) {o : Operand}
    (ho : o ∈ b.operation.operands b.count) : o.inRange = true := List.all_eq_true.mp h o ho

theorem Block.reaches_iff {b : Block} (h : b.inRange = true) (l : LogicalPage) :
    b.reaches l = true ↔ ∃ o ∈ b.operation.operands b.count, o.Reached l := by
  simp only [Block.reaches, Block.operands, List.any_eq_true]
  exact exists_congr fun o => and_congr_right fun ho => Operand.reaches_iff_reached (Block.operand_inRange h ho) l

theorem Block.writesPage_iff {b : Block} (h : b.inRange = true) (l : LogicalPage) :
    b.writesPage l = true ↔ ∃ o ∈ b.operation.operands b.count, o.writes = true ∧ o.Reached l := by
  simp only [Block.writesPage, Block.operands, List.any_eq_true, Bool.and_eq_true]
  exact exists_congr fun o => and_congr_right fun ho => and_congr_right fun _ =>
    Operand.reaches_iff_reached (Block.operand_inRange h ho) l

theorem Access.permitsRead_iff (a : Access) : a.permitsRead = true ↔ a ≠ .absent := Machine.permitsRead_iff a

theorem Access.permitsWrite_iff (a : Access) : a.permitsWrite = true ↔ a = .readWrite := Machine.permitsWrite_iff a

/-- Check 8, page by page: a page reached is mapped, and for a writing operand READ_WRITE. -/
theorem State.accessGiven_iff (s : State) (owner : PortId) (b : Block) :
    s.accessGiven owner b = true ↔
      ∀ l, b.reaches l = true →
        (b.writesPage l = true → (s.entry owner l).access = .readWrite) ∧ (s.entry owner l).access ≠ .absent := by
  simp only [State.accessGiven, List.all_eq_true, List.mem_finRange, true_imp_iff, Bool.or_eq_true, Bool.not_eq_true',
    ← Bool.not_eq_true, ← imp_iff_not_or]
  refine forall_congr' fun l => imp_congr_right fun _ => ?_
  split
  · rename_i hwrites
    rw [Access.permitsWrite_iff]
    exact ⟨fun hrw => ⟨fun _ => hrw, by rw [hrw]; nofun⟩, fun h => h.left hwrites⟩
  · rename_i hreads
    rw [Access.permitsRead_iff]
    exact ⟨fun hpresent => ⟨fun hwrites => absurd hwrites hreads, hpresent⟩, And.right⟩

/-- Check 8 operand by operand. -/
theorem State.accessGiven_iff_operands (s : State) (owner : PortId) {b : Block} (h : b.inRange = true) :
    s.accessGiven owner b = true ↔
      ∀ o ∈ b.operation.operands b.count, ∀ l, o.Reached l →
        (o.writes = true → (s.entry owner l).access = .readWrite) ∧ (s.entry owner l).access ≠ .absent := by
  rw [State.accessGiven_iff]
  constructor
  · intro hpages o ho l hreached
    obtain ⟨hwrites, hpresent⟩ := hpages l ((Block.reaches_iff h l).mpr ⟨o, ho, hreached⟩)
    exact ⟨fun hw => hwrites ((Block.writesPage_iff h l).mpr ⟨o, ho, hw, hreached⟩), hpresent⟩
  · intro hoperands l hreaches
    obtain ⟨o, ho, hreached⟩ := (Block.reaches_iff h l).mp hreaches
    obtain ⟨-, hpresent⟩ := hoperands o ho l hreached
    refine ⟨fun hwrites => ?_, hpresent⟩
    obtain ⟨o', ho', hw, hreached'⟩ := (Block.writesPage_iff h l).mp hwrites
    obtain ⟨hrw, -⟩ := hoperands o' ho' l hreached'
    exact hrw hw

theorem State.mem_span_iff (s : State) (owner : PortId) {b : Block} (h : b.inRange = true) (g : PhysicalPage) :
    g ∈ s.span owner b ↔
      ∃ o ∈ b.operation.operands b.count, ∃ l, o.Reached l ∧ (s.entry owner l).page = g := by
  simp only [State.span, List.mem_map, List.mem_filter, List.mem_finRange, true_and, Block.reaches_iff h]
  constructor
  · rintro ⟨l, ⟨o, ho, hreached⟩, hpage⟩
    exact ⟨o, ho, l, hreached, hpage⟩
  · rintro ⟨o, ho, l, hreached, hpage⟩
    exact ⟨l, ⟨o, ho, hreached⟩, hpage⟩

/-- X of FIR reaches back M − 1 elements (R24). -/
theorem operands_fir (n sh : Nat) {m : Nat} (hm : 1 ≤ m) (x y z : Descriptor) :
    (Operation.fir m sh x y z).operands n =
      [⟨x, 1 - m, n + m - 1, false⟩, ⟨y, 0, m, false⟩, ⟨z, 0, n, true⟩] := by
  have first : -((m - 1 : Nat) : Int) = 1 - m := by omega
  have count : n + (m - 1) = n + m - 1 := by omega
  rw [Operation.operands, first, count]

/-- Settles O24: the refusals in order, the table of operands, and check 8 and the span by the pages reached. -/
theorem invokeIsRefusedInOrder : Obligations.InvokeIsRefusedInOrder := by
  refine ⟨?_, fun n m sh w r mag x y z hm => ⟨rfl, rfl, rfl, rfl, rfl, rfl, rfl, operands_fir n sh hm x y z, rfl, rfl,
    rfl, rfl, rfl⟩, fun s owner b h => ⟨s.accessGiven_iff_operands owner h, s.mem_span_iff owner h⟩⟩
  intro p gate s htakes refused
  obtain ⟨noGate, gates⟩ := invoke_refusals p gate s htakes
  refine ⟨noGate, fun x hx => ?_⟩
  obtain ⟨absent, present⟩ := gates x hx
  refine ⟨absent, fun g hg => ?_⟩
  obtain ⟨denied, admitted⟩ := present g hg
  refine ⟨denied, fun hlevel => ?_⟩
  obtain ⟨free, defined⟩ := admitted hlevel
  refine ⟨free, fun k hk => ?_⟩
  obtain ⟨faulted, busy, placed⟩ := defined k hk
  refine ⟨faulted, busy, fun hstate => ?_⟩
  have refuse := placed hstate
  obtain ⟨depth, rest⟩ := s.checkPlacement_refusals g k.owner k.block
  refine ⟨fun hnest hdeep => refuse _ (depth hnest hdeep), fun hroom => ?_⟩
  obtain ⟨offline, working⟩ := rest hroom
  refine ⟨fun hoff => refuse _ (offline hoff), fun hon => ?_⟩
  obtain ⟨access, given⟩ := working hon
  refine ⟨fun hno => refuse _ (access hno), fun hyes => ?_⟩
  obtain ⟨fault, held⟩ := given hyes
  exact ⟨fun hfault => refuse _ (fault hfault), fun hclean hheld => refuse _ (held hclean hheld)⟩

end Sys2Proof.Machine
end

section
/-! PROOFS. The records that READ_CONTEXT, READ_GATE, READ_RUN, READ_LINES and READ_CHECK answer, byte by byte (R36,
R51, R89, R140, R157, R189, tables 11.2 and 11.3). -/

namespace Sys2Proof.Machine

/-! ### Numbers and bit sets as bytes (11.2) -/

/-- A byte taken out of a wider number is the number shifted right. -/
theorem extractLsb'_eq_byteOfNat {w : Nat} (v : BitVec w) (start : Nat) :
    v.extractLsb' start 8 = byteOfNat (v.toNat / 2 ^ start) := by
  rw [← Nat.shiftRight_eq_div_pow]
  rfl

theorem bytes16_eq (v : BitVec 16) : bytes16 v = [byteOfNat (v.toNat / 2 ^ 8), byteOfNat v.toNat] := by
  simp only [bytes16, extractLsb'_eq_byteOfNat, pow_zero, Nat.div_one]

theorem bytes32_eq (v : Word) :
    bytes32 v =
      [byteOfNat (v.toNat / 2 ^ 24), byteOfNat (v.toNat / 2 ^ 16), byteOfNat (v.toNat / 2 ^ 8), byteOfNat v.toNat] := by
  simp only [bytes32, extractLsb'_eq_byteOfNat, pow_zero, Nat.div_one]

theorem bytes64_eq (v : BitVec 64) :
    bytes64 v = bytes32 (BitVec.ofNat 32 (v.toNat / 2 ^ 32)) ++ bytes32 (BitVec.ofNat 32 v.toNat) := by
  rw [← Nat.shiftRight_eq_div_pow]
  rfl

theorem SatSet.toByte_eq (m : SatSet) :
    m.toByte = byteOfNat ((if m.high then 1 else 0) + if m.low then 2 else 0) := by
  obtain ⟨high, low⟩ := m
  cases high <;> cases low <;> rfl

theorem StepSet.byte_eq (t : StepSet) :
    t.byte = byteOfNat ((if t.reference then 1 else 0) + (if t.pattern then 2 else 0) + if t.decode then 4 else 0) := by
  obtain ⟨reference, pattern, decode⟩ := t
  cases reference <;> cases pattern <;> cases decode <;> rfl

/-- The bits of a byte made of at most eight bits. -/
theorem byteOfBits_getLsbD (bits : List Bool) (i : Nat) :
    (byteOfBits bits).getLsbD i = (decide (i < 8) && bits.getD i false) := by
  induction bits generalizing i with
  | nil => simp [byteOfBits]
  | cons b rest ih =>
    have unfolded : byteOfBits (b :: rest) = (byteOfBits rest <<< 1) ||| (if b then 1#8 else 0#8) := rfl
    rw [unfolded, BitVec.getLsbD_or, BitVec.getLsbD_shiftLeft]
    cases i with
    | zero => cases b <;> simp
    | succ j =>
      have high : (if b then 1#8 else 0#8).getLsbD (j + 1) = false := by cases b <;> simp
      rw [high, Nat.add_sub_cancel, ih, List.getD_cons_succ]
      by_cases hj : j + 1 < 8
      · simp [hj, Nat.lt_of_succ_lt hj]
      · simp [hj]

/-- Bit j of byte i of a page set stands for page 8i + j. -/
theorem pageSetBytes_get (v : PageSet) (g : PhysicalPage) :
    ∃ b : Byte, (pageSetBytes v)[g.val / 8]? = some b ∧ b.getLsbD (g.val % 8) = v.getLsbD g.val := by
  have bytes : pageSetBytes v = (List.range 8).map fun i => v.extractLsb' (8 * i) 8 := rfl
  have byte_lt : g.val / 8 < 8 := by omega
  refine ⟨v.extractLsb' (8 * (g.val / 8)) 8, by simp [bytes, byte_lt], ?_⟩
  rw [BitVec.getLsbD_extractLsb', Nat.div_add_mod]
  simp [Nat.mod_lt]

/-! ### Records of a fixed length in a row -/

/-- The i-th of a row of records of n bytes stands at byte n × i. -/
theorem take_drop_flatMap {α : Type} {f : α → List Byte} {n : Nat} (h : ∀ a, (f a).length = n) {l : List α} {i : Nat}
    (hi : i < l.length) : ((l.flatMap f).drop (n * i)).take n = f l[i] := by
  induction l generalizing i with
  | nil => cases hi
  | cons a rest ih =>
    rw [List.flatMap_cons]
    cases i with
    | zero => exact List.take_left' (h a)
    | succ j =>
      rw [Nat.mul_succ, Nat.add_comm, ← List.drop_drop, List.drop_left' (h a)]
      exact ih (Nat.lt_of_succ_lt_succ hi)

/-! ### Blocks, gates and lines (11.3, R189) -/

theorem Block.bytes_eq (op : Operation) (pr : Fin 8) (m : SatSet) (n : Nat) :
    Block.bytes ⟨op, pr, m, n⟩ =
      [op.codeByte, byteOfNat pr.val, byteOfNat ((if m.high then 1 else 0) + if m.low then 2 else 0)] ++
        bytes16 (BitVec.ofNat 16 n) ++ op.fieldBytes := by
  rw [← SatSet.toByte_eq]
  rfl

theorem gateBytes_length (g : Option Gate) : (gateBytes g).length = 5 := by cases g <;> rfl

theorem Line.bytes_length (n : Line) : n.bytes.length = 11 := rfl

theorem Line.bytes_eq (n : Line) :
    n.bytes =
      [boolByte n.config.enable, sourceByte n.config.source, edgeByte n.config.edge, byteOfNat n.config.debounce.val,
        byteOfNat n.config.validation.val, byteOfNat n.config.priority.val, byteOfNat n.config.gate.val,
        byteOfNat n.config.report.val, lineStateByte n.state,
        match n.lastRefusal with | none => 0x00 | some st => st.toByte,
        match n.lastStarted with | none => 0xFF | some c => byteOfNat c.val] := by
  obtain ⟨config, state, debounce, validation, lastRefusal, lastStarted⟩ := n
  cases lastRefusal <;> cases lastStarted <;> rfl

/-! ### READ_CONTEXT (R36) -/

theorem below_append {c : ContextId} {before : List ContextId} (h : c ∉ before) (rest : List ContextId) :
    below c (before ++ rest) = below c rest := by
  induction before with
  | nil => rfl
  | cons d before ih =>
    simp only [List.mem_cons, not_or] at h
    obtain ⟨hd, hbefore⟩ := h
    rw [List.cons_append, below, if_neg (Ne.symm hd), ih hbefore]

theorem below_of_not_mem {c : ContextId} {chain : List ContextId} (h : c ∉ chain) : below c chain = none := by
  have := below_append h []
  rwa [List.append_nil] at this

/-- The back link of R28, read from the order of the chain. -/
theorem State.backLink_eq (s : State) (c : ContextId) :
    (∀ before d after, s.chain = before ++ c :: d :: after → c ∉ before → s.backLink c = some d) ∧
    (∀ before, s.chain = before ++ [c] → c ∉ before → s.backLink c = none) ∧
    (c ∉ s.chain → s.backLink c = none) := by
  unfold State.backLink
  refine ⟨fun before d after hchain hbefore => ?_, fun before hchain hbefore => ?_, below_of_not_mem⟩
  · rw [hchain, below_append hbefore, below, if_pos rfl]
    rfl
  · rw [hchain, below_append hbefore, below, if_pos rfl]
    rfl

theorem starterByte_eq (o : Option Starter) :
    starterByte o =
      match o with
      | none => 0xFF
      | some (.port q) => byteOfNat q.val
      | some (.line l) => byteOfNat (0x10 + l.val) := by
  have line (l : LineId) : 0x10#8 ||| indexByte l = byteOfNat (0x10 + l.val) := by decide +revert
  match o with
  | none | some (.port q) => rfl
  | some (.line l) => exact line l

/-- The record of a defined slot (11.3). -/
theorem State.contextRecord_of_some {s : State} {c : ContextId} {k : Context} (h : s.ctx c = some k) :
    s.contextRecord c =
      [contextStateByte k.state, byteOfNat k.owner.val] ++ k.block.bytes ++
        [match k.startedBy with
          | none => 0xFF | some (.port q) => byteOfNat q.val | some (.line l) => byteOfNat (0x10 + l.val),
          optionIndexByte (s.backLink c), if k.nested then 0x01 else 0x00] ++
        bytes16 (BitVec.ofNat 16 k.continuation.next) ++
        (match k.continuation.part with
          | .plain => List.replicate 8 0x00
          | .accumulator a => bytes64 a
          | .hits h => bytes16 (BitVec.ofNat 16 h) ++ List.replicate 6 0x00
          | .peak none => List.replicate 6 0xFF ++ [0x00, 0x00]
          | .peak (some (v, i)) => bytes32 v ++ bytes16 (BitVec.ofNat 16 i) ++ [0x00, 0x00]) ++
        [byteOfNat ((if k.seen.high then 1 else 0) + if k.seen.low then 2 else 0),
          match k.cause with
          | none => 0x00 | some .store => 0x01 | some .satHigh => 0x02 | some .satLow => 0x03
          | some .aborted => 0x04] := by
  rw [State.contextRecord, h, ← SatSet.toByte_eq]
  dsimp only
  rw [starterByte_eq]
  rfl

theorem readContext_returns (p : PortId) (slot : Byte) (s : State) (h : s.takes p) :
    (31 < slot.toNat → exec (.readContext p slot) s = .next (s.answer p 0x21 .param [])) ∧
    ∀ c : ContextId, slot.toNat = c.val →
      exec (.readContext p slot) s = .next (s.answer p 0x21 .ok (s.contextRecord c)) := by
  have run : exec (.readContext p slot) s = .next (takeReadContext p slot s) := exec_of_takes rfl h
  rw [run]
  unfold takeReadContext
  refine ⟨fun hslot => ?_, fun c hc => ?_⟩
  · rw [indexOf_eq_none.mpr hslot]
    rfl
  · rw [indexOf_eq_some.mpr hc]

/-! ### READ_GATE (R51) -/

/-- The bytes of a run of gates. -/
def State.gateRecords (s : State) (first count : Nat) : List Byte :=
  ((s.gates.toList.drop first).take count).flatMap gateBytes

theorem State.gateRecords_length (s : State) {first count : Nat} (h : first + count ≤ 64) :
    (s.gateRecords first count).length = 5 * count := by
  rw [State.gateRecords, Laws.length_flatMap_const _ 5 gateBytes_length, List.length_take, List.length_drop,
    Vector.length_toList]
  omega

theorem State.gateRecords_get (s : State) {first count j : Nat} {g : GateId} (hj : j < count)
    (hg : g.val = first + j) : ((s.gateRecords first count).drop (5 * j)).take 5 = gateBytes (s.gate g) := by
  have hlength : j < ((s.gates.toList.drop first).take count).length := by
    rw [List.length_take, List.length_drop, Vector.length_toList]
    omega
  rw [State.gateRecords, take_drop_flatMap gateBytes_length hlength]
  simp [State.gate, hg]

theorem readGate_returns (p : PortId) (first count : Byte) (s : State) (h : s.takes p) :
    (count.toNat < 1 ∨ 16 < count.toNat ∨ 64 < first.toNat + count.toNat →
      exec (.readGate p first count) s = .next (s.answer p 0x31 .param [])) ∧
    (1 ≤ count.toNat → count.toNat ≤ 16 → first.toNat + count.toNat ≤ 64 →
      exec (.readGate p first count) s = .next (s.answer p 0x31 .ok (s.gateRecords first.toNat count.toNat))) := by
  have run : exec (.readGate p first count) s = .next (takeReadGate p first count s) := exec_of_takes rfl h
  rw [run]
  unfold takeReadGate
  refine ⟨fun hbad => ?_, fun hlow hhigh hlast => ?_⟩
  · rw [if_pos (by omega)]
    rfl
  · rw [if_neg (by omega)]
    rfl

/-! ### READ_LINES (R140) -/

/-- The bytes of READ_LINES behind those of the lines. -/
def State.lineTail (s : State) : List Byte :=
  s.pinsByte :: boolByte s.timer.running :: (bytes16 s.timer.reload ++ bytes16 s.timer.remaining)

theorem State.linesBytes_eq (s : State) : s.linesBytes = s.lines.toList.flatMap Line.bytes ++ s.lineTail := by
  simp [State.linesBytes, State.lineTail]

theorem State.lineRecords_length (s : State) : (s.lines.toList.flatMap Line.bytes).length = 88 := by
  rw [Laws.length_flatMap_const _ 11 Line.bytes_length, Vector.length_toList]

theorem State.linesBytes_length (s : State) : s.linesBytes.length = 94 := by
  rw [State.linesBytes_eq, List.length_append, State.lineRecords_length]
  rfl

theorem State.linesBytes_line (s : State) (l : LineId) :
    (s.linesBytes.drop (11 * l.val)).take 11 = (s.line l).bytes := by
  have hl : l.val < s.lines.toList.length := by
    rw [Vector.length_toList]
    exact l.isLt
  have hlength := s.lineRecords_length
  rw [State.linesBytes_eq, List.drop_append_of_le_length (by omega), List.take_append_of_le_length,
    take_drop_flatMap Line.bytes_length hl]
  · simp [State.line]
  · rw [List.length_drop]
    omega

theorem State.linesBytes_drop (s : State) (n : Nat) : s.linesBytes.drop (88 + n) = s.lineTail.drop n := by
  rw [State.linesBytes_eq, ← s.lineRecords_length, List.drop_length_add_append]

theorem State.linesBytes_pins (s : State) : s.linesBytes[88]? = some s.pinsByte := by
  have := congrArg List.head? (s.linesBytes_drop 0)
  rwa [List.head?_drop] at this

theorem State.pinsByte_bit (s : State) (l : LineId) : s.pinsByte.getLsbD l.val = decide (s.pins[l] = .high) := by
  rw [State.pinsByte, byteOfBits_getLsbD]
  simp

theorem readLines_returns (p : PortId) (s : State) (h : s.takes p) :
    ∃ rs : List Byte, exec (.readLines p) s = .next (s.answer p 0x52 .ok rs) ∧ rs.length = 94 ∧
      (∀ l : LineId, (rs.drop (11 * l.val)).take 11 = (s.line l).bytes) ∧
      (∀ l : LineId, ∃ b : Byte, rs[88]? = some b ∧ b.getLsbD l.val = decide (s.pins[l] = .high)) ∧
      rs.drop 89 = (if s.timer.running then 0x01 else 0x00) :: (bytes16 s.timer.reload ++ bytes16 s.timer.remaining) :=
  ⟨s.linesBytes, exec_of_takes (i := .readLines p) rfl h, s.linesBytes_length, s.linesBytes_line,
    fun l => ⟨s.pinsByte, s.linesBytes_pins, s.pinsByte_bit l⟩, s.linesBytes_drop 1⟩

/-! ### READ_RUN (R89) -/

theorem State.runBytes_eq (s : State) :
    s.runBytes =
      (match s.chain with | [] => 0xFF | h :: _ => byteOfNat h.val) ::
        (byteOfNat s.chain.length :: s.chain.map (fun c => byteOfNat c.val) ++
          (byteOfNat s.ready.length :: s.ready.map fun c => byteOfNat c.val) ++
          byteOfNat s.heldSet.length :: s.heldSet.map fun c => byteOfNat c.val) := by
  unfold State.runBytes State.running
  cases s.chain <;> rfl

/-! ### READ_CHECK (R157) -/

theorem resultBytes_get (results : Vector (Option PageResult) 64) (g : PhysicalPage) :
    (results.toList.map resultByte)[g.val]? = some (resultByte results[g]) := by
  simp

/-- The record of a check, in the order of 11.3. -/
theorem CheckRecord.bytes_eq (r : CheckRecord) :
    r.bytes =
      [checkStateByte r.state, match r.starter with | none => 0xFF | some q => byteOfNat q.val] ++
        pageSetBytes r.selected ++
        [byteOfNat ((if r.steps.reference then 1 else 0) + (if r.steps.pattern then 2 else 0) +
            if r.steps.decode then 4 else 0),
          referenceByte r.reference,
          byteOfNat ((if r.omitted.reference then 1 else 0) + (if r.omitted.pattern then 2 else 0) +
            if r.omitted.decode then 4 else 0)] ++
        r.current.bytes ++ [boolByte r.aborted] ++ r.results.toList.map resultByte := by
  obtain ⟨state, starter⟩ := r
  rw [← StepSet.byte_eq, ← StepSet.byte_eq]
  cases starter <;> rfl

/-- Settles O22: each record is the one its encoding lemma spells, and a read changes nothing but the response. -/
theorem recordReadsChangeNothing : Obligations.RecordReadsChangeNothing := by
  refine ⟨⟨bytes16_eq, bytes32_eq, bytes64_eq, rfl, rfl, ?_, rfl, fun g => ?_, fun n => ?_⟩,
    fun p s h => ⟨fun slot => ?_, fun first count => ?_, ?_, readLines_returns p s h, ?_⟩⟩
  · intro _ _ _ _ _ _ _ _ _ _ _ _ _
    and_intros <;> exact (Block.bytes_eq ..).trans rfl
  · rfl
  · rw [n.bytes_eq]
    rfl
  · obtain ⟨noSlot, returned⟩ := readContext_returns p slot s h
    refine ⟨noSlot, fun c hc => ⟨fun hfree => ?_, fun k hk => ?_⟩⟩
    · rw [returned c hc, State.contextRecord, hfree]
      rfl
    · obtain ⟨member, bottom, outside⟩ := s.backLink_eq c
      refine ⟨optionIndexByte (s.backLink c), fun before d after hchain hbefore => ?_, fun before hchain hbefore => ?_,
        fun hout => ?_, ?_⟩
      · rw [member before d after hchain hbefore]
        rfl
      · rw [bottom before hchain hbefore]
        rfl
      · rw [outside hout]
        rfl
      · exact (returned c hc).trans <|
          congrArg (Host.Outcome.next <| s.answer p 0x21 .ok ·) (State.contextRecord_of_some hk)
  · obtain ⟨refused, returned⟩ := readGate_returns p first count s h
    exact ⟨refused, fun hlow hhigh hlast => ⟨s.gateRecords first.toNat count.toNat, returned hlow hhigh hlast,
      s.gateRecords_length hlast, fun j g hj hg => s.gateRecords_get hj hg⟩⟩
  · have run : exec (.readRun p) s = .next (s.answer p 0x43 .ok s.runBytes) := exec_of_takes rfl h
    exact run.trans (congrArg (Host.Outcome.next <| s.answer p 0x43 .ok ·) s.runBytes_eq)
  · have run : exec (.readCheck p) s = .next (s.answer p 0x62 .ok s.check.bytes) := exec_of_takes rfl h
    refine ⟨pageSetBytes s.check.selected, s.check.results.toList.map resultByte, rfl, pageSetBytes_get _, by simp,
      resultBytes_get _, ?_⟩
    rw [run, CheckRecord.bytes_eq]
    rfl

end Sys2Proof.Machine
end

section
/-! PROOFS. WRITE_GATE (R48, R49). -/

namespace Sys2Proof.Machine

theorem parseGateKind_eq_none {b : Byte} : parseGateKind b = none ↔ 1 < b.toNat := by
  unfold parseGateKind
  split <;> simp_all
  omega

/-- A field of a present gate is outside its range. -/
theorem parseGate_eq_none {f : GateFields}
    (h : 1 < f.kind.toNat ∨ 31 < f.context.toNat ∨ 3 < f.level.toNat) : parseGate f = none := by
  unfold parseGate
  split
  · rename_i hkind hcontext hlevel
    rcases h with hbad | hbad | hbad
    · rw [parseGateKind_eq_none.mpr hbad] at hkind
      cases hkind
    · rw [indexOf_eq_none.mpr hbad] at hcontext
      cases hcontext
    · rw [indexOf_eq_none.mpr hbad] at hlevel
      cases hlevel
  · rfl

theorem parseGate_eq_some {f : GateFields} {kind : GateKind} {c : ContextId} {level : Level}
    (hkind : parseGateKind f.kind = some kind) (hcontext : f.context.toNat = c.val)
    (hlevel : f.level.toNat = level.val) :
    parseGate f = some ⟨kind, c, level, f.linePermitted⟩ := by
  rw [parseGate, hkind, indexOf_eq_some.mpr hcontext, indexOf_eq_some.mpr hlevel]

/-- The checks of R48: the level, the gate index, and with present yes the fields. -/
theorem checkWriteGate_outcomes (p : PortId) (gate : Byte) (present : Bool) (f : GateFields) (s : State) :
    (s.level p ≠ 0 → checkWriteGate p gate present f s = .error .denied) ∧
    (s.level p = 0 →
      (63 < gate.toNat → checkWriteGate p gate present f s = .error .param) ∧
      ∀ g : GateId, gate.toNat = g.val →
        (present = false → checkWriteGate p gate present f s = .ok (g, none)) ∧
        (present = true →
          (parseGate f = none → checkWriteGate p gate present f s = .error .param) ∧
          ∀ record, parseGate f = some record → checkWriteGate p gate present f s = .ok (g, some record))) := by
  unfold checkWriteGate
  refine ⟨fun hlevel => if_pos hlevel, fun hlevel => ?_⟩
  rw [if_neg (not_not_intro hlevel)]
  refine ⟨fun hgate => ?_, fun g hg => ?_⟩
  · rw [indexOf_eq_none.mpr hgate]
  · rw [indexOf_eq_some.mpr hg]
    dsimp only
    refine ⟨fun habsent => ?_, fun hpresent => ?_⟩
    · rw [habsent]
      rfl
    · rw [if_pos hpresent]
      exact ⟨fun hbad => by rw [hbad], fun record hrecord => by rw [hrecord]⟩

/-- Settles O23: the command answers what `checkWriteGate` finds; where it finds a record, the gate is written and one
service pass follows. -/
theorem writeGateWritesOneRecord : Obligations.WriteGateWritesOneRecord := by
  intro p gate present f s htakes run writes
  have hrun : run = .next (takeWriteGate p gate present f s) := exec_of_takes rfl htakes
  have refused {st : Status} (h : checkWriteGate p gate present f s = .error st) :
      run = .next (s.answer p 0x30 st []) := by
    rw [hrun, takeWriteGate, h]
    rfl
  have written {g : GateId} {record : Option Gate} (h : checkWriteGate p gate present f s = .ok (g, record)) :
      run = writes g record := by
    rw [hrun, takeWriteGate, h]
  obtain ⟨denied, level0⟩ := checkWriteGate_outcomes p gate present f s
  refine ⟨fun hlevel => refused (denied hlevel), fun hlevel => ?_⟩
  obtain ⟨noGate, gates⟩ := level0 hlevel
  refine ⟨fun hgate => refused (noGate hgate), fun g hg => ?_⟩
  obtain ⟨removed, given⟩ := gates g hg
  refine ⟨fun habsent => written (removed habsent), fun hpresent => ?_⟩
  obtain ⟨badFields, record⟩ := given hpresent
  refine ⟨fun hbad => refused (badFields (parseGate_eq_none hbad)), fun c level hc hl => ⟨fun hnest => ?_,
    fun hqueue => ?_⟩⟩
  · exact written (record _ (parseGate_eq_some (by rw [hnest]; rfl) hc hl))
  · exact written (record _ (parseGate_eq_some (by rw [hqueue]; rfl) hc hl))

end Sys2Proof.Machine
end

section
/-! PROOFS. An INVOKE that passes the checks of R53: acceptance (R60) and the three placements (R68, R72, R73). -/

namespace Sys2Proof.Machine

/-! ### Checks 6 to 10 pass (R53) -/

theorem State.checkPlacement_passes {s : State} {g : Gate} {owner : PortId} {b : Block}
    (hroom : g.kind = .queue ∨ s.chain.length < 4) (hon : s.offline = false)
    (haccess : s.accessGiven owner b = true) (hclean : ∀ y ∈ s.span owner b, s.carriesFault y = false)
    (hfree : ∀ y ∈ s.span owner b, s.heldMark y = false) : s.checkPlacement g owner b = .ok g := by
  have room : ¬(g.kind = .nest ∧ Config.chainDepth ≤ s.chain.length) := by
    rintro ⟨hnest, hdeep⟩
    rcases hroom with hqueue | hshort
    · cases hnest.symm.trans hqueue
    · exact absurd hdeep (Nat.not_le.mpr hshort)
  have clean : (s.span owner b).any s.carriesFault = false := by simpa using hclean
  have free : (s.span owner b).any s.heldMark = false := by simpa using hfree
  rw [State.checkPlacement, if_neg room]
  simp [hon, haccess, clean, free]

/-! ### Entry into the ready list (R68) -/

/-- The new entry stands behind every entry of equal or higher priority at the front, and ahead of a lower one. -/
theorem insertByPriority_splits (priority : ContextId → Nat) (c : ContextId) (l : List ContextId) :
    ∃ before after, l = before ++ after ∧ insertByPriority priority c l = before ++ c :: after ∧
      (∀ d ∈ before, priority c ≤ priority d) ∧ ∀ d, after.head? = some d → priority d < priority c := by
  induction l with
  | nil => exact ⟨[], [], rfl, rfl, nofun, nofun⟩
  | cons e rest ih =>
    by_cases hle : priority c ≤ priority e
    · obtain ⟨before, after, hrest, hinsert, hbefore, hafter⟩ := ih
      refine ⟨e :: before, after, by rw [hrest]; rfl, ?_, List.forall_mem_cons.mpr ⟨hle, hbefore⟩, hafter⟩
      rw [insertByPriority, if_pos hle, hinsert]
      rfl
    · refine ⟨[], e :: rest, rfl, if_neg hle, nofun, fun d hd => ?_⟩
      cases hd
      exact Nat.lt_of_not_le hle

theorem State.priorityOf_of_some {s : State} {c : ContextId} {k : Context} (h : s.ctx c = some k) :
    s.priorityOf c = k.block.priority.val := by
  rw [State.priorityOf, h]

/-! ### The three placements (R72, R73) -/

theorem State.accept_alone {s : State} {c : ContextId} {k : Context} (hk : s.ctx c = some k) (hchain : s.chain = [])
    (kind : GateKind) (who : Starter) :
    s.accept c kind who =
      { s with contexts := update s.contexts c (some (k.accepted who .running false)), chain := [c] } := by
  rw [State.accept, hchain]
  dsimp only
  rw [State.modCtx_of_some hk]

theorem State.accept_queue {s : State} {c : ContextId} {k : Context} (hk : s.ctx c = some k) (hchain : s.chain ≠ [])
    (who : Starter) :
    s.accept c .queue who =
      { s with
        contexts := update s.contexts c (some (k.accepted who .ready false))
        ready := insertByPriority s.priorityOf c s.ready } := by
  unfold State.accept
  split
  · rename_i hempty
    exact absurd hempty hchain
  · rw [State.modCtx_of_some hk]

/-- Over the runner: the context RUNNING and nested, the runner PREEMPTED, and every other record as it was. -/
theorem State.accept_nest {s : State} {c runner : ContextId} {rest : List ContextId} {k : Context}
    (hk : s.ctx c = some k) (hchain : s.chain = runner :: rest) (hne : runner ≠ c) (who : Starter) :
    ∃ cs : Vector (Option Context) 32,
      s.accept c .nest who = { s with contexts := cs, chain := c :: s.chain } ∧
      cs[c] = some (k.accepted who .running true) ∧
      cs[runner] = (s.ctx runner).map (fun r => r.withState .preempted) ∧
      ∀ d, d ≠ c → d ≠ runner → cs[d] = s.ctx d := by
  have hk' : (s.modCtx runner fun r => r.withState .preempted).ctx c = some k := by
    rw [State.modCtx_ctx_other s hne.symm, hk]
  refine ⟨update (s.modCtx runner fun r => r.withState .preempted).contexts c
    (some (k.accepted who .running true)), ?_, update_get_self .., ?_, fun d hd hdr => ?_⟩
  · rw [State.accept, hchain]
    dsimp only
    rw [State.modCtx_of_some hk']
    rfl
  · rw [update_get_other _ hne]
    exact State.modCtx_ctx_self ..
  · rw [update_get_other _ hd]
    exact State.modCtx_ctx_other _ hdr _

theorem State.placedState_alone {s : State} (hchain : s.chain = []) (kind : GateKind) :
    s.placedState kind = .running := by
  unfold State.placedState
  rw [hchain]

theorem State.placedState_nest (s : State) : s.placedState .nest = .running := by
  unfold State.placedState
  split
  · rfl
  · rfl
  · rename_i hkind
    cases hkind

theorem State.placedState_queue {s : State} (hchain : s.chain ≠ []) : s.placedState .queue = .ready := by
  unfold State.placedState
  split
  · rename_i hempty
    exact absurd hempty hchain
  · rename_i hkind
    cases hkind
  · rfl

/-! ### INVOKE -/

/-- Acceptance answers the context and the state that it is given (R52). -/
theorem invoke_accepted {p : PortId} {gate : Byte} {s : State} (htakes : s.takes p) {g : Gate}
    (h : s.checkInvocation (s.gateNamed gate) (.port p) = .ok g) :
    exec (.invoke p gate) s =
      .next ((s.accept g.context g.kind (.port p)).answer p 0x32 .ok
        [byteOfNat g.context.val, contextStateByte (s.placedState g.kind)]) := by
  have hrun : exec (.invoke p gate) s = .next (takeInvoke p gate s) := exec_of_takes rfl htakes
  rw [hrun, takeInvoke, h]
  rfl

/-- Settles O25: the ten checks pass, and the answer is the acceptance in each of the three placements. -/
theorem invokeAcceptsAndPlaces : Obligations.InvokeAcceptsAndPlaces := by
  intro p gate x g k s htakes hx hg hlevel hk hstate hroom hon haccess hclean hfree started answers
  have passes : s.checkInvocation (s.gateNamed gate) (.port p) = .ok g := by
    have hadmits : s.admits g (.port p) = true := decide_eq_true hlevel
    rw [State.gateNamed_of_eq hx, hg, State.checkInvocation_eq_checkPlacement hadmits hk hstate,
      State.checkPlacement_passes hroom hon haccess hclean hfree]
  have run := invoke_accepted htakes passes
  refine ⟨fun hchain => ?_, fun hchain hqueue => ?_, fun runner rest hchain hne hnest => ?_⟩
  · rw [State.accept_alone hk hchain, State.placedState_alone hchain] at run
    exact run
  · rw [hqueue, State.accept_queue hk hchain, State.placedState_queue hchain] at run
    obtain ⟨before, after, hready, hinsert, hbefore, hafter⟩ :=
      insertByPriority_splits s.priorityOf g.context s.ready
    rw [hinsert] at run
    rw [State.priorityOf_of_some hk] at hbefore hafter
    exact ⟨before, after, hready, hbefore, hafter, run⟩
  · obtain ⟨cs, hcs, nested, preempted, others⟩ := State.accept_nest hk hchain hne (.port p)
    rw [hnest, hcs, State.placedState_nest] at run
    exact ⟨cs, run, nested, preempted, others⟩

end Sys2Proof.Machine
end

section
/-! PROOFS. The service pass: which lines it serves and in what order (R130, R131), what the service of one line does
(R132 to R134), and the check sequence on a line's behalf (R47, R53, R54). -/

namespace Sys2Proof.Machine

/-! ### The lines served, and their order (R131) -/

theorem State.mem_pendingLines_iff (s : State) (l : LineId) : l ∈ s.pendingLines ↔ (s.line l).state = .pending := by
  have every : ∀ pr : Fin 8, pr ∈ ([7, 6, 5, 4, 3, 2, 1, 0] : List (Fin 8)) := by decide
  simp only [State.pendingLines, List.mem_flatMap, List.mem_filter, List.mem_finRange, true_and, Bool.and_eq_true,
    decide_eq_true_eq]
  constructor
  · rintro ⟨-, -, hpending, -⟩
    exact hpending
  · exact fun hpending => ⟨(s.line l).config.priority, every _, hpending, rfl⟩

theorem State.pendingLines_ordered (s : State) :
    s.pendingLines.Pairwise fun l m =>
      (s.line m).config.priority < (s.line l).config.priority ∨
        ((s.line m).config.priority = (s.line l).config.priority ∧ l < m) := by
  have falling : ([7, 6, 5, 4, 3, 2, 1, 0] : List (Fin 8)).Pairwise fun a b => b < a := by decide
  unfold State.pendingLines
  rw [List.pairwise_flatMap]
  refine ⟨fun pr _ => ?_, falling.imp fun {a b} hab l hl m hm => ?_⟩
  · refine List.Pairwise.imp_of_mem (fun {l m} hl hm hlm => ?_) ((List.pairwise_lt_finRange 8).filter _)
    simp only [List.mem_filter, Bool.and_eq_true, decide_eq_true_eq] at hl hm
    obtain ⟨-, -, hpl⟩ := hl
    obtain ⟨-, -, hpm⟩ := hm
    exact Or.inr ⟨hpm.trans hpl.symm, hlm⟩
  · simp only [List.mem_filter, Bool.and_eq_true, decide_eq_true_eq] at hl hm
    obtain ⟨-, -, rfl⟩ := hl
    obtain ⟨-, -, rfl⟩ := hm
    exact Or.inl hab

/-! ### The service of one line (R132 to R134) -/

theorem isTransient_iff (code : Status) : isTransient code = true ↔ code ∈ [.busy, .nestDepth, .pageHeld] := by
  cases code <;> decide

theorem ofFn_eq_update {α : Type} {n : Nat} (v : Vector α n) (j : Fin n) (f : α → α) :
    (Vector.ofFn fun i => if i = j then f v[i] else v[i]) = update v j (f v[j]) := by
  refine Vector.ext fun i hi => ?_
  have entry : (update v j (f v[j]))[(⟨i, hi⟩ : Fin n)] = if ⟨i, hi⟩ = j then f v[j] else v[i] := update_get ..
  rw [Vector.getElem_ofFn]
  refine Eq.trans ?_ entry.symm
  split
  · rename_i hij
    rw [hij]
  · rfl

/-- Flags raised at one port alone. -/
theorem State.raiseAt_one (s : State) (q : PortId) (f : FlagSet) :
    s.raiseAt (fun p => p = q) f = s.modEvents q fun e => e.raise f := by
  simp only [State.raiseAt, State.modEvents, State.eventsAt, decide_eq_true_eq,
    ofFn_eq_update s.events q fun e => e.raise f]

theorem State.serveLine_ok {s : State} {l : LineId} {g : Gate}
    (h : s.checkInvocation (s.gate (s.line l).config.gate) (.line l) = .ok g) :
    s.serveLine l = (s.accept g.context g.kind (.line l)).modLine l fun n => n.served g.context := by
  rw [State.serveLine, h]

theorem State.serveLine_transient {s : State} {l : LineId} {code : Status}
    (h : s.checkInvocation (s.gate (s.line l).config.gate) (.line l) = .error code) (hcode : isTransient code = true) :
    s.serveLine l = s.modLine l fun n => { n with lastRefusal := some code } := by
  rw [State.serveLine, h]
  exact if_pos hcode

theorem State.serveLine_permanent {s : State} {l : LineId} {code : Status}
    (h : s.checkInvocation (s.gate (s.line l).config.gate) (.line l) = .error code)
    (hcode : ¬isTransient code = true) :
    s.serveLine l =
      (s.modLine l fun n => { n with state := .refused, lastRefusal := some code }).modEvents (s.line l).config.report
        fun e => e.raise flagTrigger := by
  rw [State.serveLine, h, ← State.raiseAt_one]
  exact if_neg hcode

/-! ### The check sequence (R47, R53) -/

/-- Checks 2 to 5, for a gate that is present; where they pass, checks 6 to 10 are left. -/
theorem State.checkInvocation_outcomes (s : State) (g : Gate) (who : Starter) :
    (s.admits g who = false → s.checkInvocation (some g) who = .error .denied) ∧
    (s.admits g who = true →
      (s.ctx g.context = none → s.checkInvocation (some g) who = .error .noContext) ∧
      ∀ k, s.ctx g.context = some k →
        (k.state = .faulted → s.checkInvocation (some g) who = .error .ctxFaulted) ∧
        (k.state ∈ [.ready, .running, .preempted, .held] → s.checkInvocation (some g) who = .error .busy) ∧
        (k.state ∈ [.idle, .done] → s.checkInvocation (some g) who = s.checkPlacement g k.owner k.block)) := by
  refine ⟨fun hno => ?_, fun hyes => ⟨fun hfree => ?_, fun k hk => ⟨fun hfaulted => ?_, fun hactive => ?_,
    State.checkInvocation_eq_checkPlacement hyes hk⟩⟩⟩
  · simp [State.checkInvocation, hno]
  · simp [State.checkInvocation, hyes, hfree]
  · simp [State.checkInvocation, hyes, hk, hfaulted]
  · have hnot : k.state ≠ .faulted := by
      intro hfaulted
      simp [hfaulted] at hactive
    simp [State.checkInvocation, hyes, hk, hnot, ContextState.isActive_of_mem hactive]

theorem State.admits_line (s : State) (g : Gate) (l : LineId) : s.admits g (.line l) = g.linePermitted := rfl

/-- Settles O47: the order of the lines, the three outcomes of a service, and the check sequence of a line. -/
theorem servicePassServesLinesInOrder : Obligations.ServicePassServesLinesInOrder := by
  refine ⟨fun s => ⟨rfl, s.mem_pendingLines_iff, s.pendingLines_ordered⟩, ?_, ?_⟩
  · intro s l outcome
    refine ⟨fun g hg => State.serveLine_ok hg, fun code hcode => ⟨fun hin => ?_, fun hout => ?_⟩⟩
    · exact State.serveLine_transient hcode ((isTransient_iff code).mpr hin)
    · exact State.serveLine_permanent hcode (mt (isTransient_iff code).mp hout)
  · refine fun s l => ⟨rfl, ?_⟩
    intro g answers
    obtain ⟨denied, permitted⟩ := s.checkInvocation_outcomes g (.line l)
    rw [State.admits_line] at denied permitted
    refine ⟨denied, fun hyes => ?_⟩
    obtain ⟨free, defined⟩ := permitted hyes
    refine ⟨free, fun k hk => ?_⟩
    obtain ⟨faulted, busy, placed⟩ := defined k hk
    refine ⟨faulted, busy, fun hstate => ?_⟩
    have answered {e : Except Status Gate} (h : s.checkPlacement g k.owner k.block = e) : answers e :=
      (placed hstate).trans h
    obtain ⟨depth, rest⟩ := s.checkPlacement_refusals g k.owner k.block
    refine ⟨fun hnest hdeep => answered (depth hnest hdeep), fun hroom => ?_⟩
    obtain ⟨offline, working⟩ := rest hroom
    refine ⟨fun hoff => answered (offline hoff), fun hon => ?_⟩
    obtain ⟨access, given⟩ := working hon
    refine ⟨fun hno => answered (access hno), fun hyes => ?_⟩
    obtain ⟨fault, held⟩ := given hyes
    exact ⟨fun hfault => answered (fault hfault), fun hclean => ⟨fun hheld => answered (held hclean hheld),
      fun hfree => answered (State.checkPlacement_passes hroom hon hyes hclean hfree)⟩⟩

end Sys2Proof.Machine
end

section
/-! PROOFS. The run structure as lists over what each slot holds: the rules for what leaves, starts, waits, nests and is
held (R66 to R69, R72, R73, R75, R78, R80, R87). -/

namespace Sys2Proof.Machine

open Function (update_of_ne)

/-! ### Collections that match -/

/-- The three collections are whole for a table of active states and of priorities: what `RunStructure` says of a state,
without the state. -/
structure Collections (standing : ContextId → Option ContextState) (priority : ContextId → Nat)
    (chain ready held : List ContextId) : Prop where
  running : ∀ c, chain.head? = some c ↔ standing c = some .running
  preempted : ∀ c, c ∈ chain.tail ↔ standing c = some .preempted
  waiting : ∀ c, c ∈ ready ↔ standing c = some .ready
  resting : ∀ c, c ∈ held ↔ standing c = some .held
  chain_nodup : chain.Nodup
  depth : chain.length ≤ Config.chainDepth
  ready_nodup : ready.Nodup
  order : ready.Pairwise fun a b => priority b ≤ priority a
  ascending : held.Pairwise (· < ·)
  none_waits : chain = [] → ready = []

/-- The collections before a successor is chosen: members of the chain that may all be PREEMPTED, and READY contexts
that may wait with nothing running. -/
structure Unsettled (standing : ContextId → Option ContextState) (priority : ContextId → Nat)
    (chain ready held : List ContextId) : Prop where
  members : ∀ c, c ∈ chain ↔ standing c = some .running ∨ standing c = some .preempted
  running : ∀ c, standing c = some .running → chain.head? = some c
  waiting : ∀ c, c ∈ ready ↔ standing c = some .ready
  resting : ∀ c, c ∈ held ↔ standing c = some .held
  chain_nodup : chain.Nodup
  depth : chain.length ≤ Config.chainDepth
  ready_nodup : ready.Nodup
  order : ready.Pairwise fun a b => priority b ≤ priority a
  ascending : held.Pairwise (· < ·)

section
variable {standing : ContextId → Option ContextState} {priority : ContextId → Nat} {chain ready held : List ContextId}

theorem Collections.mem_chain (h : Collections standing priority chain ready held) (c : ContextId) :
    c ∈ chain ↔ standing c = some .running ∨ standing c = some .preempted := by
  rw [← h.running, ← h.preempted]
  cases chain <;> simp [eq_comm]

theorem Collections.unsettled (h : Collections standing priority chain ready held) :
    Unsettled standing priority chain ready held :=
  { h with members := h.mem_chain, running := fun c => (h.running c).mpr }

/-- A slot that holds no active context is in no collection. -/
theorem Collections.not_mem (h : Collections standing priority chain ready held) {c : ContextId}
    (hc : standing c = none) : c ∉ chain ∧ c ∉ ready ∧ c ∉ held := by
  rw [h.mem_chain, h.waiting, h.resting, hc]
  simp

/-! ### Leaving, and the successor (R75, R82 to R84, R87) -/

/-- What the slots hold once some contexts have left. -/
def without (leaving : ContextId → Bool) (standing : ContextId → Option ContextState) (c : ContextId) :
    Option ContextState :=
  if leaving c then none else standing c

theorem without_eq_some {leaving : ContextId → Bool} {c : ContextId} {st : ContextState} :
    without leaving standing c = some st ↔ standing c = some st ∧ leaving c = false := by
  unfold without
  cases leaving c <;> simp

/-- A head that stays is the head of what stays. -/
theorem head?_filter_of_head? {l : List ContextId} {c : ContextId} {keep : ContextId → Bool} (h : l.head? = some c)
    (hc : keep c = true) : (l.filter keep).head? = some c := by
  cases l with
  | nil => cases h
  | cons d rest =>
    cases h
    rw [List.filter_cons_of_pos hc]
    rfl

theorem Unsettled.leave (h : Unsettled standing priority chain ready held) (leaving : ContextId → Bool) :
    Unsettled (without leaving standing) priority (chain.filter fun c => !leaving c) (ready.filter fun c => !leaving c)
      (held.filter fun c => !leaving c) where
  members c := by simp [without_eq_some, h.members, or_and_right]
  running c hc := by
    obtain ⟨hrun, hstays⟩ := without_eq_some.mp hc
    exact head?_filter_of_head? (h.running c hrun) (by simp [hstays])
  waiting c := by simp [without_eq_some, h.waiting]
  resting c := by simp [without_eq_some, h.resting]
  chain_nodup := h.chain_nodup.filter _
  depth := (List.length_filter_le ..).trans h.depth
  ready_nodup := h.ready_nodup.filter _
  order := h.order.filter _
  ascending := h.ascending.filter _

/-- A slot that held no context of some state, and comes to hold none, changes nothing for that state. -/
theorem update_eq_some_iff {c : ContextId} {new : Option ContextState} {st : ContextState} (hold : standing c ≠ some st)
    (hnew : new ≠ some st) (d : ContextId) : Function.update standing c new d = some st ↔ standing d = some st := by
  by_cases hd : d = c
  · subst hd
    simp [hold, hnew]
  · rw [update_of_ne hd]

/-- A member of the chain remains: the highest one runs. -/
theorem Unsettled.head_runs {d : ContextId} {rest : List ContextId}
    (h : Unsettled standing priority (d :: rest) ready held) :
    Collections (Function.update standing d (some .running)) priority (d :: rest) ready held := by
  have active : standing d = some .running ∨ standing d = some .preempted := (h.members d).mp List.mem_cons_self
  have other (c : ContextId) (hc : c ≠ d) : standing c ≠ some .running := fun hrun => by
    cases h.running c hrun
    exact hc rfl
  obtain ⟨hd, -⟩ := List.nodup_cons.mp h.chain_nodup
  refine { h with running := fun c => ?_, preempted := fun c => ?_, waiting := fun c => ?_, resting := fun c => ?_,
                  none_waits := nofun }
  · by_cases hc : c = d
    · simp [hc]
    · simp [hc, other c hc, Ne.symm hc]
  · by_cases hc : c = d
    · simp [hc, hd]
    · have member := h.members c
      simp only [List.mem_cons, hc, other c hc, false_or] at member
      rw [update_of_ne hc, List.tail_cons, member]
  · rw [update_eq_some_iff (by rcases active with ha | ha <;> simp [ha]) (by simp), h.waiting]
  · rw [update_eq_some_iff (by rcases active with ha | ha <;> simp [ha]) (by simp), h.resting]

theorem Unsettled.none_active (h : Unsettled standing priority [] ready held) (c : ContextId) :
    standing c ≠ some .running ∧ standing c ≠ some .preempted := by
  simpa using (h.members c).not

/-- No member of the chain remains: the head of the ready list leaves it and runs alone. -/
theorem Unsettled.ready_starts {d : ContextId} {rest : List ContextId}
    (h : Unsettled standing priority [] (d :: rest) held) :
    Collections (Function.update standing d (some .running)) priority [d] rest held := by
  have waits : standing d = some .ready := (h.waiting d).mp List.mem_cons_self
  obtain ⟨hd, hrest⟩ := List.nodup_cons.mp h.ready_nodup
  obtain ⟨-, order⟩ := List.pairwise_cons.mp h.order
  refine ⟨fun c => ?_, fun c => ?_, fun c => ?_, fun c => ?_, List.nodup_singleton d, Nat.le_add_left 1 3, hrest,
    order, h.ascending, nofun⟩
  · obtain ⟨notRunning, -⟩ := h.none_active c
    by_cases hc : c = d
    · simp [hc]
    · simp [hc, notRunning, Ne.symm hc]
  · obtain ⟨-, notPreempted⟩ := h.none_active c
    rw [update_eq_some_iff (by simp [waits]) (by simp)]
    simp [notPreempted]
  · by_cases hc : c = d
    · simp [hc, hd]
    · simp [← h.waiting, hc]
  · rw [update_eq_some_iff (by simp [waits]) (by simp), h.resting]

/-- Nothing remains to run. -/
theorem Unsettled.idles (h : Unsettled standing priority [] [] held) :
    Collections standing priority [] [] held := by
  refine { h with running := fun c => ?_, preempted := fun c => ?_, none_waits := fun _ => rfl } <;>
    obtain ⟨notRunning, notPreempted⟩ := h.none_active c
  · simp [notRunning]
  · simp [notPreempted]

/-! ### Entering (R68, R69, R72, R73, R78, R80) -/

theorem mem_insertByPriority_iff {c d : ContextId} {l : List ContextId} :
    d ∈ insertByPriority priority c l ↔ d = c ∨ d ∈ l := by
  obtain ⟨before, after, hl, hinsert, -⟩ := insertByPriority_splits priority c l
  rw [hinsert, hl]
  simp only [List.mem_append, List.mem_cons]
  tauto

theorem insertByPriority_nodup {c : ContextId} {l : List ContextId} (hl : l.Nodup) (hc : c ∉ l) :
    (insertByPriority priority c l).Nodup := by
  obtain ⟨before, after, rfl, hinsert, -⟩ := insertByPriority_splits priority c l
  rw [hinsert, List.nodup_middle]
  exact List.nodup_cons.mpr ⟨hc, hl⟩

/-- A list in non-increasing priority stays so: the entry is behind the entries of equal or higher priority and ahead of
the first lower one, and so of all that follow. -/
theorem insertByPriority_ordered {c : ContextId} {l : List ContextId}
    (hl : l.Pairwise fun a b => priority b ≤ priority a) :
    (insertByPriority priority c l).Pairwise fun a b => priority b ≤ priority a := by
  obtain ⟨before, after, rfl, hinsert, higher, lower⟩ := insertByPriority_splits priority c l
  obtain ⟨hbefore, hafter, across⟩ := List.pairwise_append.mp hl
  have below_c (d : ContextId) (hd : d ∈ after) : priority d ≤ priority c := by
    cases after with
    | nil => cases hd
    | cons e rest =>
      have first : priority e ≤ priority c := (lower e rfl).le
      obtain ⟨hrest, -⟩ := List.pairwise_cons.mp hafter
      rcases List.mem_cons.mp hd with rfl | hd
      · exact first
      · exact (hrest d hd).trans first
  rw [hinsert]
  refine List.pairwise_append.mpr ⟨hbefore, List.pairwise_cons.mpr ⟨below_c, hafter⟩, fun a ha b hb => ?_⟩
  rcases List.mem_cons.mp hb with rfl | hb
  · exact higher a ha
  · exact across a ha b hb

theorem mem_insertAscending {c d : ContextId} {l : List ContextId} : d ∈ insertAscending c l ↔ d = c ∨ d ∈ l := by
  induction l with
  | nil => simp [insertAscending]
  | cons e rest ih =>
    unfold insertAscending
    split_ifs with hlt heq
    · rw [List.mem_cons, ih, List.mem_cons]
      tauto
    · rw [heq, List.mem_cons]
      tauto
    · simp

theorem insertAscending_ascending {c : ContextId} {l : List ContextId} (hl : l.Pairwise (· < ·)) :
    (insertAscending c l).Pairwise (· < ·) := by
  induction l with
  | nil => simp [insertAscending]
  | cons e rest ih =>
    obtain ⟨hrest, htail⟩ := List.pairwise_cons.mp hl
    unfold insertAscending
    split_ifs with hlt heq
    · refine List.pairwise_cons.mpr ⟨fun d hd => ?_, ih htail⟩
      rcases mem_insertAscending.mp hd with rfl | hd
      · exact hlt
      · exact hrest d hd
    · exact hl
    · have first : c < e := lt_of_le_of_ne (le_of_not_gt hlt) (Ne.symm heq)
      refine List.pairwise_cons.mpr ⟨fun d hd => ?_, hl⟩
      rcases List.mem_cons.mp hd with rfl | hd
      · exact first
      · exact first.trans (hrest d hd)

/-- With nothing running, a context starts. -/
theorem Collections.start (h : Collections standing priority [] ready held) {c : ContextId} (hc : standing c = none) :
    Collections (Function.update standing c (some .running)) priority [c] ready held := by
  cases h.none_waits rfl
  refine ⟨fun d => ?_, fun d => ?_, fun d => ?_, fun d => ?_, List.nodup_singleton c, Nat.le_add_left 1 3, .nil, .nil,
    h.ascending, nofun⟩
  · by_cases hd : d = c
    · simp [hd]
    · simp [hd, ← h.running, Ne.symm hd]
  · rw [update_eq_some_iff (by simp [hc]) (by simp), ← h.preempted]
    simp
  · rw [update_eq_some_iff (by simp [hc]) (by simp), h.waiting]
  · rw [update_eq_some_iff (by simp [hc]) (by simp), h.resting]

/-- While something runs, a context becomes a new entry of the ready list. -/
theorem Collections.enqueue (h : Collections standing priority chain ready held) (hrun : chain ≠ []) {c : ContextId}
    (hc : standing c = none) :
    Collections (Function.update standing c (some .ready)) priority chain (insertByPriority priority c ready) held := by
  obtain ⟨-, notReady, -⟩ := h.not_mem hc
  refine { h with running := fun d => ?_, preempted := fun d => ?_, waiting := fun d => ?_, resting := fun d => ?_,
                  ready_nodup := insertByPriority_nodup h.ready_nodup notReady,
                  order := insertByPriority_ordered h.order,
                  none_waits := fun hempty => absurd hempty hrun }
  · rw [update_eq_some_iff (by simp [hc]) (by simp), h.running]
  · rw [update_eq_some_iff (by simp [hc]) (by simp), h.preempted]
  · by_cases hd : d = c
    · simp [mem_insertByPriority_iff, hd]
    · simp [mem_insertByPriority_iff, hd, h.waiting]
  · rw [update_eq_some_iff (by simp [hc]) (by simp), h.resting]

/-- The runner becomes PREEMPTED and a context runs over it. -/
theorem Collections.nest {runner : ContextId} {rest : List ContextId}
    (h : Collections standing priority (runner :: rest) ready held)
    (hroom : (runner :: rest).length < Config.chainDepth) {c : ContextId} (hc : standing c = none) :
    Collections (Function.update (Function.update standing runner (some .preempted)) c (some .running)) priority
      (c :: runner :: rest) ready held := by
  obtain ⟨notChain, -, -⟩ := h.not_mem hc
  have runs : standing runner = some .running := (h.running runner).mp rfl
  have other (d : ContextId) (hd : d ≠ runner) : standing d ≠ some .running := fun hrun => by
    cases (h.running d).mpr hrun
    exact hd rfl
  have hne : c ≠ runner := fun heq => notChain (by simp [heq])
  have free : Function.update standing runner (some .preempted) c = none := by rw [update_of_ne hne, hc]
  refine { h with running := fun d => ?_, preempted := fun d => ?_, waiting := fun d => ?_, resting := fun d => ?_,
                  chain_nodup := List.nodup_cons.mpr ⟨notChain, h.chain_nodup⟩, depth := hroom, none_waits := nofun }
  · by_cases hd : d = c
    · simp [hd]
    · by_cases hr : d = runner
      · simp [hr, hne, hne.symm]
      · simp [hd, hr, other d hr, Ne.symm hd]
  · rw [update_eq_some_iff (by simp [free]) (by simp)]
    by_cases hr : d = runner
    · simp [hr]
    · simp [hr, ← h.preempted]
  · rw [update_eq_some_iff (by simp [free]) (by simp), update_eq_some_iff (by simp [runs]) (by simp), h.waiting]
  · rw [update_eq_some_iff (by simp [free]) (by simp), update_eq_some_iff (by simp [runs]) (by simp), h.resting]

/-- A context enters the held set. -/
theorem Collections.hold (h : Collections standing priority chain ready held) {c : ContextId}
    (hc : standing c = none) :
    Collections (Function.update standing c (some .held)) priority chain ready (insertAscending c held) := by
  refine { h with running := fun d => ?_, preempted := fun d => ?_, waiting := fun d => ?_, resting := fun d => ?_,
                  ascending := insertAscending_ascending h.ascending }
  · rw [update_eq_some_iff (by simp [hc]) (by simp), h.running]
  · rw [update_eq_some_iff (by simp [hc]) (by simp), h.preempted]
  · rw [update_eq_some_iff (by simp [hc]) (by simp), h.waiting]
  · by_cases hd : d = c
    · simp [mem_insertAscending, hd]
    · simp [mem_insertAscending, hd, h.resting]

/-- A HELD context leaves the held set, and nothing else moves. -/
theorem Collections.release (h : Collections standing priority chain ready held) {c : ContextId}
    (hc : standing c = some .held) :
    Collections (Function.update standing c none) priority chain ready (held.filter fun d => d ≠ c) := by
  refine { h with running := fun d => ?_, preempted := fun d => ?_, waiting := fun d => ?_, resting := fun d => ?_,
                  ascending := h.ascending.filter _ }
  · rw [update_eq_some_iff (by simp [hc]) (by simp), h.running]
  · rw [update_eq_some_iff (by simp [hc]) (by simp), h.preempted]
  · rw [update_eq_some_iff (by simp [hc]) (by simp), h.waiting]
  · by_cases hd : d = c
    · simp [hd]
    · simp [hd, h.resting]

end

end Sys2Proof.Machine
end

section
/-! PROOFS. What leaves the run structure, and the successor (R75, R82 to R84, R87); the run structure of a state as
collections over what its slots hold. -/

namespace Sys2Proof.Machine

/-! ### The successor -/

theorem State.settle_of_chain {s : State} {h : ContextId} {rest : List ContextId} (hchain : s.chain = h :: rest) :
    s.settle = s.modCtx h fun k => k.withState .running := by
  rw [State.settle, hchain]

theorem State.settle_of_ready {s : State} {d : ContextId} {rest : List ContextId} (hchain : s.chain = [])
    (hready : s.ready = d :: rest) :
    s.settle = { s with chain := [d], ready := rest }.modCtx d fun k => k.withState .running := by
  rw [State.settle, hchain, hready]

theorem State.settle_of_idle {s : State} (hchain : s.chain = []) (hready : s.ready = []) : s.settle = s := by
  rw [State.settle, hchain, hready]

/-- The members that stay, before the successor is chosen. -/
def State.stripped (s : State) (leaving : ContextId → Bool) : State :=
  { s with
    chain := s.chain.filter fun c => !leaving c
    ready := s.ready.filter fun c => !leaving c
    heldSet := s.heldSet.filter fun c => !leaving c }

theorem State.promoted_ctx (s : State) (d c : ContextId) :
    (s.modCtx d fun k => k.withState .running).ctx c =
      if c = d then (s.ctx c).map (fun k => { k with state := .running }) else s.ctx c := by
  rw [State.modCtx_ctx]
  split
  · rename_i hc
    rw [hc]
    rfl
  · rfl

/-- A withdrawal changes the collections and the records alone. -/
theorem State.withdraw_frame (s : State) (leaving : ContextId → Bool) :
    s.withdraw leaving = { s with
      chain := (s.withdraw leaving).chain, ready := (s.withdraw leaving).ready
      heldSet := (s.withdraw leaving).heldSet, contexts := (s.withdraw leaving).contexts } := by
  unfold State.withdraw State.settle
  split
  · rfl
  · split <;> rfl

/-- Settles O8: the three ways in which a successor is chosen among the members that stay. -/
theorem withdrawalKeepsOrderAndRunsSuccessor : Obligations.WithdrawalKeepsOrderAndRunsSuccessor := by
  intro s leaving stay t
  refine ⟨s.withdraw_frame leaving, s.withdraw_heldSet leaving, fun h rest hchain => ?_,
    fun d rest hchain hready => ?_, fun hchain hready => ?_⟩
  · have ht : t = (s.stripped leaving).modCtx h fun k => k.withState .running := State.settle_of_chain hchain
    rw [ht]
    exact ⟨hchain, rfl, State.promoted_ctx _ h⟩
  · have ht : t = { s.stripped leaving with chain := [d], ready := rest }.modCtx d fun k => k.withState .running :=
      State.settle_of_ready hchain hready
    rw [ht]
    exact ⟨rfl, rfl, State.promoted_ctx _ d⟩
  · have ht : t = s.stripped leaving := State.settle_of_idle hchain hready
    rw [ht]
    exact ⟨hchain, hready, fun c => rfl⟩

/-! ### The run structure of a state -/

/-- The state of an active context; nothing of a slot that is FREE or holds an inactive one. -/
def standingOf (k : Option Context) : Option ContextState := (k.map (·.state)).filter (·.isActive)

def State.standing (s : State) (c : ContextId) : Option ContextState := standingOf (s.ctx c)

theorem standingOf_active {k : Context} (h : k.state.isActive = true) : standingOf (some k) = some k.state := by
  simp [standingOf, Option.filter, h]

theorem standingOf_inactive {k : Context} (h : k.state.isActive = false) : standingOf (some k) = none := by
  simp [standingOf, Option.filter, h]

theorem State.standing_eq_some {s : State} {c : ContextId} {st : ContextState} (hst : st.isActive = true) :
    s.standing c = some st ↔ (s.ctx c).map (·.state) = some st := by
  simp only [State.standing, standingOf, Option.filter_eq_some_iff, hst, and_true]

theorem runStructure_iff (s : State) :
    RunStructure s ↔ Collections s.standing s.priorityOf s.chain s.ready s.heldSet := by
  constructor
  · rintro ⟨matching, chainNodup, depth, readyNodup, order, ascending, noneWaits⟩
    refine ⟨fun c => ?_, fun c => ?_, fun c => ?_, fun c => ?_, chainNodup, depth, readyNodup, order, ascending,
      noneWaits⟩ <;> obtain ⟨head, tail, ready, held⟩ := matching c <;> rw [State.standing_eq_some rfl]
    exacts [head, tail, ready, held]
  · intro h
    refine ⟨fun c => ?_, h.chain_nodup, h.depth, h.ready_nodup, h.order, h.ascending, h.none_waits⟩
    refine ⟨(h.running c).trans ?_, (h.preempted c).trans ?_, (h.waiting c).trans ?_, (h.resting c).trans ?_⟩ <;>
      exact State.standing_eq_some rfl

theorem runStructure_of {t : State} {standing : ContextId → Option ContextState} {priority : ContextId → Nat}
    {chain ready held : List ContextId} (h : Collections standing priority chain ready held)
    (hstanding : t.standing = standing) (hpriority : t.priorityOf = priority) (hchain : t.chain = chain)
    (hready : t.ready = ready) (hheld : t.heldSet = held) : RunStructure t := by
  subst hstanding hpriority hchain hready hheld
  exact (runStructure_iff t).mpr h

/-! ### What the run structure depends on -/

/-- The priorities of READY contexts are all that the order of the ready list sees. -/
theorem Collections.congr {standing standing' : ContextId → Option ContextState} {priority priority' : ContextId → Nat}
    {chain ready held : List ContextId} (h : Collections standing priority chain ready held)
    (hst : ∀ c, standing' c = standing c) (hpr : ∀ c ∈ ready, priority' c = priority c) :
    Collections standing' priority' chain ready held := by
  cases funext hst
  refine { h with order := h.order.imp_of_mem fun {a b} ha hb hab => ?_ }
  rw [hpr a ha, hpr b hb]
  exact hab

theorem State.priorityOf_congr {s t : State} {c : ContextId}
    (h : (t.ctx c).map (·.block) = (s.ctx c).map (·.block)) : t.priorityOf c = s.priorityOf c := by
  unfold State.priorityOf
  cases hs : s.ctx c <;> cases ht : t.ctx c <;> simp_all

theorem State.standing_congr {s t : State} {c : ContextId} (h : t.ctx c = s.ctx c) : t.standing c = s.standing c := by
  rw [State.standing, State.standing, h]

/-- `t` has the contexts and the three collections of `s`. -/
structure SameCollections (s t : State) : Prop extends SameContexts s t where
  heldSet : t.heldSet = s.heldSet

theorem SameCollections.refl (s : State) : SameCollections s s := ⟨.refl s, rfl⟩

theorem SameCollections.trans {s t u : State} (h : SameCollections s t) (h' : SameCollections t u) :
    SameCollections s u :=
  ⟨h.toSameContexts.trans h'.toSameContexts, h'.heldSet.trans h.heldSet⟩

theorem SameRun.sameCollections {s t : State} (h : SameRun s t) (hheld : t.heldSet = s.heldSet) :
    SameCollections s t := ⟨h.sameContexts, hheld⟩

theorem RunStructure.of_same {s t : State} (hst : SameCollections s t) (h : RunStructure s) : RunStructure t := by
  rw [runStructure_iff] at h ⊢
  rw [hst.chain, hst.ready, hst.heldSet]
  exact h.congr (fun c => State.standing_congr (hst.ctx c)) fun c _ => State.priorityOf_congr (by rw [hst.ctx])

/-- The run structure sees the collections, the states of active contexts and their blocks, and nothing else. -/
theorem RunStructure.of_standing {s t : State} (h : RunStructure s) (hchain : t.chain = s.chain)
    (hready : t.ready = s.ready) (hheld : t.heldSet = s.heldSet) (hst : ∀ c, t.standing c = s.standing c)
    (hblock : ∀ c, s.standing c ≠ none → (t.ctx c).map (·.block) = (s.ctx c).map (·.block)) : RunStructure t := by
  rw [runStructure_iff] at h ⊢
  rw [hchain, hready, hheld]
  refine h.congr hst fun c hc => State.priorityOf_congr (hblock c ?_)
  rw [(h.waiting c).mp hc]
  nofun

/-- The table of standings after one slot is written. -/
theorem State.standing_of_update {s t : State} {c : ContextId} {k : Option Context}
    (h : t.contexts = update s.contexts c k) : t.standing = Function.update s.standing c (standingOf k) := by
  funext d
  have hd : t.ctx d = if d = c then k else s.ctx d := (congrArg (·[d]) h).trans (update_get ..)
  rw [State.standing, hd, Function.update_apply]
  split <;> rfl

theorem State.priorityOf_of_update {s t : State} {c : ContextId} {k k' : Context}
    (h : t.contexts = update s.contexts c (some k')) (hk : s.ctx c = some k) (hblock : k'.block = k.block) :
    t.priorityOf = s.priorityOf := by
  funext d
  have hd : t.ctx d = if d = c then some k' else s.ctx d := (congrArg (·[d]) h).trans (update_get ..)
  refine State.priorityOf_congr ?_
  rw [hd]
  split
  · rename_i hdc
    rw [hdc, hk, Option.map_some, Option.map_some, hblock]
  · rfl

theorem State.standing_modCtx {s : State} {c : ContextId} {k : Context} (hk : s.ctx c = some k)
    (f : Context → Context) : (s.modCtx c f).standing = Function.update s.standing c (standingOf (some (f k))) :=
  State.standing_of_update (by rw [State.modCtx_of_some hk])

theorem State.priorityOf_modCtx {s : State} {c : ContextId} {k : Context} (hk : s.ctx c = some k)
    {f : Context → Context} (hblock : (f k).block = k.block) : (s.modCtx c f).priorityOf = s.priorityOf :=
  State.priorityOf_of_update (by rw [State.modCtx_of_some hk]) hk hblock

/-- An inactive or FREE slot written with an inactive record, or freed. -/
theorem RunStructure.write {s : State} (h : RunStructure s) {c : ContextId} (hc : s.standing c = none)
    {k : Option Context} (hk : standingOf k = none) : RunStructure (s.setCtx c k) := by
  have unchanged (d : ContextId) : (s.setCtx c k).standing d = s.standing d := by
    rw [State.standing_of_update (rfl : (s.setCtx c k).contexts = update s.contexts c k), hk, ← hc,
      Function.update_eq_self]
  refine h.of_standing rfl rfl rfl unchanged fun d hd => ?_
  rw [State.setCtx_ctx, if_neg]
  rintro rfl
  exact hd hc

/-- A record rewritten in neither state nor block. -/
theorem RunStructure.modCtx_same {s : State} (h : RunStructure s) {c : ContextId} {f : Context → Context}
    (hstate : ∀ k, (f k).state = k.state) (hblock : ∀ k, (f k).block = k.block) : RunStructure (s.modCtx c f) := by
  have same {α : Type} (g : Context → α) (hg : ∀ k, g (f k) = g k) (d : ContextId) :
      ((s.modCtx c f).ctx d).map g = (s.ctx d).map g := by
    rw [State.modCtx_ctx]
    split
    · rename_i hd
      subst hd
      rw [Option.map_map]
      exact congrArg (Option.map · _) (funext hg)
    · rfl
  refine h.of_standing rfl rfl rfl (fun d => ?_) fun d _ => same _ hblock d
  rw [State.standing, standingOf, same _ hstate]
  rfl

/-! ### Leaving -/

theorem without_update {standing : ContextId → Option ContextState} {leaving : ContextId → Bool} {d : ContextId}
    (hd : leaving d = false) (new : Option ContextState) :
    without leaving (Function.update standing d new) = Function.update (without leaving standing) d new := by
  funext c
  by_cases hc : c = d
  · subst hc
    simp [without, hd]
  · simp [without, hc]

/-- The successor's record becomes RUNNING and no other changes. -/
theorem State.standing_of_promotion {s t : State} {d : ContextId} (hd : s.standing d ≠ none)
    (h : ∀ c, t.ctx c = if c = d then (s.ctx c).map (fun k => { k with state := .running }) else s.ctx c) :
    t.standing = Function.update s.standing d (some .running) := by
  funext c
  rw [State.standing, h c, Function.update_apply]
  split
  · rename_i hc
    subst hc
    cases hk : s.ctx c with
    | none => exact absurd (by rw [State.standing, hk]; rfl) hd
    | some k => exact standingOf_active rfl
  · rfl

theorem State.withdraw_priorityOf (s : State) (w : ContextId → Bool) : (s.withdraw w).priorityOf = s.priorityOf := by
  funext c
  refine State.priorityOf_congr ?_
  rcases s.withdraw_ctx w c with hc | hc <;> rw [hc]
  rw [Option.map_map]
  rfl

/-- The record of a context that leaves stands: a successor is a context that stays. -/
theorem State.withdraw_ctx_leaver {s : State} {w : ContextId → Bool} {c : ContextId} (hc : w c = true) :
    (s.withdraw w).ctx c = s.ctx c := by
  rcases s.withdraw_ctx_member w c with h | ⟨⟨-, hstays⟩, -⟩
  · exact h
  · rw [hc] at hstays
    cases hstays

/-- Contexts leave, their records rewritten or not: the others stand in whole collections (R75, R87). -/
theorem RunStructure.withdraw {s u : State} (h : RunStructure s) {w : ContextId → Bool}
    (hchain : u.chain = s.chain) (hready : u.ready = s.ready) (hheld : u.heldSet = s.heldSet)
    (hpriority : u.priorityOf = s.priorityOf) (hstay : ∀ c, w c = false → u.standing c = s.standing c) :
    Collections (without w (u.withdraw w).standing) (u.withdraw w).priorityOf (u.withdraw w).chain
      (u.withdraw w).ready (u.withdraw w).heldSet := by
  have same : without w s.standing = without w u.standing := by
    funext c
    cases hc : w c <;> simp [without, hc, hstay]
  have left := ((runStructure_iff s).mp h).unsettled.leave w
  rw [← hchain, ← hready, ← hheld, ← hpriority, same] at left
  have stays {c : ContextId} {st : ContextState} (hc : without w u.standing c = some st) :
      w c = false ∧ u.standing c ≠ none := by
    obtain ⟨hst, hw⟩ := without_eq_some.mp hc
    exact ⟨hw, by rw [hst]; nofun⟩
  obtain ⟨-, held, chainRuns, readyStarts, idles⟩ := withdrawalKeepsOrderAndRunsSuccessor u w
  rw [State.withdraw_priorityOf, held]
  cases hleft : u.chain.filter fun c => !w c with
  | cons d rest =>
    obtain ⟨chain, ready, ctx⟩ := chainRuns d rest hleft
    rw [hleft] at left
    obtain ⟨hd, hactive⟩ : w d = false ∧ u.standing d ≠ none := by
      rcases (left.members d).mp List.mem_cons_self with hd | hd <;> exact stays hd
    rw [chain, ready, State.standing_of_promotion hactive ctx, without_update hd]
    exact left.head_runs
  | nil =>
    rw [hleft] at left
    cases hwaits : u.ready.filter fun c => !w c with
    | cons d rest =>
      obtain ⟨chain, ready, ctx⟩ := readyStarts d rest hleft hwaits
      rw [hwaits] at left
      obtain ⟨hd, hactive⟩ := stays ((left.waiting d).mp List.mem_cons_self)
      rw [chain, ready, State.standing_of_promotion hactive ctx, without_update hd]
      exact left.ready_starts
    | nil =>
      obtain ⟨chain, ready, ctx⟩ := idles hleft hwaits
      rw [hwaits] at left
      have unchanged : (u.withdraw w).standing = u.standing := funext fun c => State.standing_congr (ctx c)
      rw [chain, ready, unchanged]
      exact left.idles

end Sys2Proof.Machine
end

section
/-! PROOFS. The run structure stays whole through the operations of the run structure, invocation, the service pass and
the element step. -/

namespace Sys2Proof.Machine

/-! ### One context leaves -/

/-- A context whose record is rewritten leaves its collection: the others stand in whole collections (R75, R81). -/
theorem RunStructure.leave {s : State} (h : RunStructure s) {c : ContextId} {k : Context} (hk : s.ctx c = some k)
    {f : Context → Context} (hblock : (f k).block = k.block) :
    Collections (without (· = c) ((s.modCtx c f).withdraw (· = c)).standing)
      ((s.modCtx c f).withdraw (· = c)).priorityOf ((s.modCtx c f).withdraw (· = c)).chain
      ((s.modCtx c f).withdraw (· = c)).ready ((s.modCtx c f).withdraw (· = c)).heldSet := by
  refine h.withdraw rfl rfl rfl (State.priorityOf_modCtx hk hblock) fun d hd => ?_
  rw [State.standing_modCtx hk, Function.update_of_ne (of_decide_eq_false hd)]

/-- What the slot of a context that left holds for the run structure. -/
theorem State.standing_leave {s : State} {c : ContextId} {k : Context} (hk : s.ctx c = some k)
    (f : Context → Context) : ((s.modCtx c f).withdraw (· = c)).standing c = standingOf (some (f k)) := by
  rw [State.standing, State.withdraw_ctx_leaver (decide_eq_true rfl), State.modCtx_ctx_self, hk]
  rfl

theorem without_of_none {standing : ContextId → Option ContextState} {c : ContextId} (hc : standing c = none) :
    without (· = c) standing = standing := by
  funext d
  by_cases hd : d = c
  · simp [without, hd, hc]
  · simp [without, hd]

/-- A context becomes DONE or FAULTED and leaves. -/
theorem RunStructure.leave_inactive {s : State} (h : RunStructure s) {c : ContextId} {k : Context}
    (hk : s.ctx c = some k) {f : Context → Context} (hblock : (f k).block = k.block)
    (hstate : (f k).state.isActive = false) : RunStructure ((s.modCtx c f).withdraw (· = c)) := by
  have left := h.leave hk hblock
  rw [without_of_none ((State.standing_leave hk f).trans (standingOf_inactive hstate))] at left
  exact (runStructure_iff _).mpr left

/-! ### Acceptance and the service pass (R60, R72, R73, R130) -/

/-- A record rewritten to an active one with the same block. -/
theorem State.activated {s : State} {c : ContextId} {k : Context} (hk : s.ctx c = some k) {f : Context → Context}
    {st : ContextState} (hf : (f k).state = st) (hst : st.isActive = true) (hblock : (f k).block = k.block) :
    (s.modCtx c f).standing = Function.update s.standing c (some st) ∧ (s.modCtx c f).priorityOf = s.priorityOf := by
  subst hf
  exact ⟨by rw [State.standing_modCtx hk, standingOf_active hst], State.priorityOf_modCtx hk hblock⟩

theorem State.standing_of_inactive {s : State} {c : ContextId} {k : Context} (hk : s.ctx c = some k)
    (hinactive : k.state.isActive = false) : s.standing c = none := by
  rw [State.standing, hk, standingOf_inactive hinactive]

theorem State.ctx_of_standing {s : State} {c : ContextId} {st : ContextState} (h : s.standing c = some st) :
    ∃ k, s.ctx c = some k := by
  cases hk : s.ctx c with
  | none =>
    rw [State.standing, hk] at h
    cases h
  | some k => exact ⟨k, rfl⟩

/-- The context of a passed check sequence is placed: alone, in the ready list, or over the runner. -/
theorem RunStructure.accept {s : State} (h : RunStructure s) {c : ContextId} {k : Context} (hk : s.ctx c = some k)
    (hinactive : k.state.isActive = false) {kind : GateKind}
    (hroom : ¬(kind = .nest ∧ Config.chainDepth ≤ s.chain.length)) (who : Starter) :
    RunStructure (s.accept c kind who) := by
  have free := State.standing_of_inactive hk hinactive
  have whole := (runStructure_iff s).mp h
  unfold State.accept
  split
  · rename_i hchain
    obtain ⟨standing, priority⟩ := State.activated hk (f := fun k => k.accepted who .running false) (st := .running)
      rfl rfl rfl
    rw [hchain] at whole
    exact runStructure_of (whole.start free) standing priority rfl rfl rfl
  · rename_i runner rest hchain
    split
    · obtain ⟨standing, priority⟩ := State.activated hk (f := fun k => k.accepted who .ready false) (st := .ready)
        rfl rfl rfl
      exact runStructure_of (whole.enqueue (by rw [hchain]; nofun) free) standing priority rfl rfl rfl
    · have room : (runner :: rest).length < Config.chainDepth := by
        rw [← hchain]
        exact Nat.lt_of_not_le fun hdeep => hroom ⟨rfl, hdeep⟩
      rw [hchain] at whole
      have runs : s.standing runner = some .running := (whole.running runner).mp rfl
      obtain ⟨kr, hkr⟩ := State.ctx_of_standing runs
      obtain ⟨standing, priority⟩ := State.activated hkr (f := fun k => k.withState .preempted) (st := .preempted)
        rfl rfl rfl
      have hne : c ≠ runner := by
        rintro rfl
        cases free.symm.trans runs
      have hk' : (s.modCtx runner fun k => k.withState .preempted).ctx c = some k := by
        rw [State.modCtx_ctx_other _ hne, hk]
      obtain ⟨standing', priority'⟩ := State.activated hk' (f := fun k => k.accepted who .running true)
        (st := .running) rfl rfl rfl
      rw [standing] at standing'
      exact runStructure_of (whole.nest room free) standing' (priority'.trans priority) (congrArg _ hchain) rfl rfl

theorem RunStructure.accept_of_checkInvocation {s : State} (h : RunStructure s) {gate : Option Gate} {who : Starter}
    {g : Gate} (hg : s.checkInvocation gate who = .ok g) : RunStructure (s.accept g.context g.kind who) := by
  obtain ⟨-, -, k, hk, -, hinactive, hroom, -⟩ := State.checkInvocation_ok hg
  exact h.accept hk hinactive hroom who

theorem SameCollections.modLine (s : State) (l : LineId) (f : Line → Line) : SameCollections s (s.modLine l f) :=
  (SameRun.modLine ..).sameCollections rfl

theorem SameCollections.modPort (s : State) (p : PortId) (f : Port → Port) : SameCollections s (s.modPort p f) :=
  (SameRun.modPort ..).sameCollections rfl

theorem SameCollections.answer (s : State) (p : PortId) (code : Byte) (st : Status) (rs : List Byte) :
    SameCollections s (s.answer p code st rs) := (SameRun.answer ..).sameCollections rfl

theorem SameCollections.raiseAt (s : State) (which : PortId → Bool) (f : FlagSet) :
    SameCollections s (s.raiseAt which f) := (SameRun.raiseAt ..).sameCollections rfl

theorem RunStructure.answer {s : State} (h : RunStructure s) (p : PortId) (code : Byte) (st : Status)
    (rs : List Byte) : RunStructure (s.answer p code st rs) := h.of_same (.answer ..)

theorem RunStructure.refuse {s : State} (h : RunStructure s) (p : PortId) (code : Byte) (st : Status) :
    RunStructure (s.refuse p code st) := h.answer ..

theorem RunStructure.serveLine {s : State} (h : RunStructure s) (l : LineId) : RunStructure (s.serveLine l) := by
  unfold State.serveLine
  split
  · rename_i g hg
    exact (h.accept_of_checkInvocation hg).of_same (.modLine ..)
  · split
    · exact h.of_same (.modLine ..)
    · exact h.of_same ((SameCollections.modLine ..).trans (.raiseAt ..))

theorem RunStructure.servicePass {s : State} (h : RunStructure s) : RunStructure s.servicePass :=
  servicePass_invariant (fun _ l hs => hs.serveLine l) h

theorem RunStructure.serviceIf {s : State} (h : RunStructure s) (b : Bool) : RunStructure (s.serviceIf b) := by
  unfold State.serviceIf
  split
  · exact h.servicePass
  · exact h

/-! ### The end of a context's run, and the element step (R71, R76, R81, R93) -/

theorem RunStructure.endContext {s : State} (h : RunStructure s) {c : ContextId} {k : Context} (hk : s.ctx c = some k)
    {st : ContextState} (hst : st.isActive = false) (cause : Option FaultCause) (o : Ending) :
    RunStructure (((s.modCtx c fun k => k.ended st cause).withdraw (· = c)).postNotice c o).servicePass := by
  have left := h.leave_inactive hk (f := fun k => k.ended st cause) rfl hst
  exact (left.of_same ((SameRun.postNotice ..).sameCollections rfl)).servicePass

theorem RunStructure.faultContext {s : State} (h : RunStructure s) {c : ContextId} {k : Context}
    (hk : s.ctx c = some k) (cause : FaultCause) : RunStructure (s.faultContext c cause) :=
  h.endContext hk rfl (some cause) .faulted

theorem RunStructure.finishStep {s : State} (h : RunStructure s) {c : ContextId} {k : Context} (hk : s.ctx c = some k)
    (r : StepResult) : RunStructure (s.finishStep c k r) := by
  have stored : RunStructure (s.writeResults k.owner r.writes) :=
    h.of_same ((SameRun.writeResults ..).sameCollections rfl)
  have advanced : RunStructure ((s.writeResults k.owner r.writes).modCtx c fun x => x.advanced r) :=
    stored.modCtx_same (fun _ => rfl) fun _ => rfl
  have hk' : ((s.writeResults k.owner r.writes).modCtx c fun x => x.advanced r).ctx c = some (k.advanced r) := by
    rw [State.modCtx_ctx_self]
    exact congrArg (Option.map _) hk
  unfold State.finishStep
  dsimp only
  split
  · exact advanced.endContext hk' rfl none .done
  · exact advanced

theorem RunStructure.stepContext {s : State} (h : RunStructure s) {c : ContextId} {k : Context}
    (hk : s.ctx c = some k) (f : Option Nat) : RunStructure (s.stepContext c k f) := by
  unfold State.stepContext
  split
  · exact h.faultContext hk _
  · split
    · rename_i a _
      have failed := SameRun.wordCheckFailure s (s.entryFor k.owner a).page
      have kept := h.of_same (failed.sameCollections (State.wordCheckFailure_heldSet ..))
      exact kept.faultContext ((failed.ctx c).trans hk) _
    · split
      · exact h.faultContext hk _
      · exact h.finishStep hk _

theorem RunStructure.elementStep {s : State} (h : RunStructure s) (f : Option Nat) : RunStructure (s.elementStep f) := by
  unfold State.elementStep
  split
  · exact h
  · split
    · exact h
    · rename_i hk
      exact h.stepContext hk f

/-! ### HOLD and RESUME (R78, R80) -/

/-- A context leaves its collection and enters the held set. -/
theorem RunStructure.holdContext {s : State} (h : RunStructure s) {c : ContextId} {k : Context}
    (hk : s.ctx c = some k) : RunStructure (s.holdContext c) := by
  have left := h.leave hk (f := fun k => { k with state := .held, nested := false }) rfl
  have held := State.standing_leave hk fun k => { k with state := .held, nested := false }
  unfold State.holdContext
  refine RunStructure.serviceIf ?_ _
  refine runStructure_of (left.hold (c := c) (by simp [without])) ?_ rfl rfl rfl rfl
  funext d
  rw [Function.update_apply]
  split
  · rename_i hd
    rw [hd]
    exact held
  · rename_i hd
    exact (if_neg (by simpa using hd)).symm

/-- A HELD context leaves the held set and starts, or enters the ready list. -/
theorem RunStructure.resumeContext {s : State} (h : RunStructure s) {c : ContextId} {k : Context}
    (hk : s.ctx c = some k) (hheld : k.state = .held) : RunStructure (s.resumeContext c) := by
  have held : s.standing c = some .held := by
    rw [State.standing, hk, standingOf_active (by rw [hheld]; rfl), hheld]
  have released := ((runStructure_iff s).mp h).release held
  have free : Function.update s.standing c none c = none := Function.update_self ..
  unfold State.resumeContext
  dsimp only
  split
  · rename_i hchain
    obtain ⟨standing, priority⟩ := State.activated hk (f := fun k => k.withState .running) (st := .running) rfl rfl rfl
    rw [hchain] at released
    have started := released.start free
    rw [Function.update_idem] at started
    exact runStructure_of started standing priority rfl rfl rfl
  · rename_i hchain
    obtain ⟨standing, priority⟩ := State.activated hk (f := fun k => k.withState .ready) (st := .ready) rfl rfl rfl
    have waits := released.enqueue (by rw [hchain]; nofun) free
    rw [Function.update_idem] at waits
    exact runStructure_of waits standing priority rfl rfl rfl

end Sys2Proof.Machine
end

section
/-! PROOFS. The commands that change contexts, the store check and the resets keep the run structure whole. -/

namespace Sys2Proof.Machine

/-! ### Context commands -/

theorem RunStructure.modInactive {s : State} (h : RunStructure s) {c : ContextId} {k : Context} (hk : s.ctx c = some k)
    (hinactive : k.state.isActive = false) {f : Context → Context} (hf : (f k).state.isActive = false) :
    RunStructure (s.modCtx c f) := by
  rw [State.modCtx, hk]
  exact h.write (State.standing_of_inactive hk hinactive) (standingOf_inactive hf)

theorem RunStructure.takeDefineContext {s : State} (h : RunStructure s) (p : PortId) (slot : Byte) (f : BlockFields) :
    RunStructure (takeDefineContext p slot f s) := by
  unfold Machine.takeDefineContext
  split
  · exact h.refuse ..
  · rename_i c b hok
    have free : s.standing c = none := by rw [State.standing, checkDefine_ok hok]; rfl
    exact (h.write free (standingOf_inactive (k := Context.defined p b) rfl)).answer ..

theorem RunStructure.takeSetParams {s : State} (h : RunStructure s) (p : PortId) (slot : Byte) (f : BlockFields) :
    RunStructure (takeSetParams p slot f s) := by
  unfold Machine.takeSetParams
  split
  · exact h.refuse ..
  · rename_i hok
    obtain ⟨k, hk, hinactive⟩ := checkSetParams_ok hok
    exact (h.modInactive hk hinactive hinactive).answer ..

theorem RunStructure.takeClearContext {s : State} (h : RunStructure s) (p : PortId) (slot : Byte) :
    RunStructure (takeClearContext p slot s) := by
  unfold Machine.takeClearContext
  split
  · exact h.refuse ..
  · rename_i hok
    obtain ⟨k, hk, hinactive⟩ := checkClearContext_ok hok
    exact (h.modInactive hk hinactive (f := Context.cleared) rfl).servicePass.answer ..

/-- Slots without active contexts become FREE (R39). -/
theorem RunStructure.freeSlots {s : State} (h : RunStructure s) {w : ContextId → Bool}
    (hw : ∀ c, w c = true → s.standing c = none) : RunStructure (s.freeSlots w) := by
  refine h.of_standing (by simp) (by simp) (by simp) (fun c => ?_) fun c hc => ?_
  · rw [State.standing, State.freeSlots_ctx]
    split
    · rename_i hfreed
      exact (hw c hfreed).symm
    · rfl
  · rw [State.freeSlots_ctx, if_neg fun hfreed => hc (hw c hfreed)]

theorem RunStructure.takeFreeContext {s : State} (h : RunStructure s) (p : PortId) (slot : Byte) :
    RunStructure (takeFreeContext p slot s) := by
  unfold Machine.takeFreeContext
  split
  · exact h.refuse ..
  · rename_i c hok
    obtain ⟨k, hk, hinactive⟩ := checkFreeContext_ok hok
    refine (h.freeSlots fun d hd => ?_).answer ..
    rw [of_decide_eq_true hd, State.standing_of_inactive hk hinactive]

/-! ### Invocation and the run commands -/

theorem RunStructure.takeWriteGate {s : State} (h : RunStructure s) (p : PortId) (gate : Byte) (present : Bool)
    (f : GateFields) : RunStructure (takeWriteGate p gate present f s) := by
  unfold Machine.takeWriteGate
  split
  · exact h.refuse ..
  · rename_i g record _
    have written : SameCollections s { s with gates := update s.gates g record } := ⟨⟨rfl, rfl, rfl⟩, rfl⟩
    exact (h.of_same written).servicePass.answer ..

theorem RunStructure.takeInvoke {s : State} (h : RunStructure s) (p : PortId) (gate : Byte) :
    RunStructure (takeInvoke p gate s) := by
  unfold Machine.takeInvoke
  split
  · exact h.refuse ..
  · rename_i hok
    exact (h.accept_of_checkInvocation hok).answer ..

theorem RunStructure.takeHold {s : State} (h : RunStructure s) (p : PortId) (slot : Byte) :
    RunStructure (takeHold p slot s) := by
  unfold Machine.takeHold
  split
  · exact h.refuse ..
  · rename_i hok
    have hk := checkControl_ok hok
    split
    · exact (h.holdContext hk).answer ..
    · split
      · exact (h.holdContext hk).answer ..
      · exact h.refuse ..
    all_goals exact h.refuse ..

theorem RunStructure.takeResume {s : State} (h : RunStructure s) (p : PortId) (slot : Byte) :
    RunStructure (takeResume p slot s) := by
  unfold Machine.takeResume
  split
  · exact h.refuse ..
  · rename_i hok
    split
    · rename_i hheld
      exact (h.resumeContext (checkControl_ok hok) hheld).answer ..
    · exact h.refuse ..

theorem RunStructure.takeAbort {s : State} (h : RunStructure s) (p : PortId) (slot : Byte) :
    RunStructure (takeAbort p slot s) := by
  unfold Machine.takeAbort
  split
  · exact h.refuse ..
  · rename_i hok
    split
    · exact (h.faultContext (checkControl_ok hok) _).answer ..
    · exact h.refuse ..

/-! ### The store check -/

@[simp] theorem State.endCheck_heldSet (s : State) : s.endCheck.heldSet = s.heldSet := by
  simp [State.endCheck, State.closeCheck]

@[simp] theorem State.takePair_heldSet (s : State) (next : Option (PhysicalPage × PhysicalPage)) :
    (s.takePair next).heldSet = s.heldSet := by
  unfold State.takePair
  split <;> simp

@[simp] theorem State.afterPattern_heldSet (s : State) : s.afterPattern.heldSet = s.heldSet := by
  unfold State.afterPattern State.beginDecode
  split <;> simp

@[simp] theorem State.nextPageTest_heldSet (s : State) : s.nextPageTest.heldSet = s.heldSet := by
  unfold State.nextPageTest
  split <;> simp

@[simp] theorem State.afterReference_heldSet (s : State) : s.afterReference.heldSet = s.heldSet := by
  unfold State.afterReference
  split <;> simp

theorem State.completeReference_heldSet (s : State) (o : TestOutcome) : (s.completeReference o).heldSet = s.heldSet := by
  unfold State.completeReference
  split
  · simp [State.referencePassed]
  · simp [State.referenceFailed]
  · rfl

theorem State.completePage_heldSet (s : State) (o : TestOutcome) : (s.completePage o).heldSet = s.heldSet := by
  unfold State.completePage
  split
  · cases o <;> simp [State.judgePage]
  · rfl

theorem State.completePair_heldSet (s : State) (o : TestOutcome) : (s.completePair o).heldSet = s.heldSet := by
  unfold State.completePair
  split
  · cases o <;> simp [State.judgePair, State.nextPair]
  · rfl

/-- A check changes the run structure at its end alone, by the service pass, which leaves the held set as it is. -/
theorem RunStructure.of_served {s t : State} (h : RunStructure s) (hst : Served s t) (hheld : t.heldSet = s.heldSet) :
    RunStructure t := by
  cases hst with
  | quiet same => exact h.of_same ⟨same, hheld⟩
  | pass same => exact (h.of_same ⟨same, (State.servicePass_heldSet _).symm.trans hheld⟩).servicePass

theorem RunStructure.takeStartCheck {s : State} (h : RunStructure s) (p : PortId) (pages : PageSet) (q : StepRequest) :
    RunStructure (takeStartCheck p pages q s) := by
  unfold Machine.takeStartCheck
  split
  · exact h.refuse ..
  · have accepted : RunStructure (s.acceptCheck p pages q) :=
      h.of_same ⟨.acceptCheck s p pages q, by unfold State.acceptCheck; rfl⟩
    refine RunStructure.answer ?_ ..
    split
    · exact accepted.of_served (endCheck_served _) (State.endCheck_heldSet _)
    · exact accepted

theorem State.zeroUnderTest_heldSet (s : State) : s.zeroUnderTest.heldSet = s.heldSet := by
  unfold State.zeroUnderTest
  split <;> rfl

theorem RunStructure.takeAbortCheck {s : State} (h : RunStructure s) (p : PortId) :
    RunStructure (takeAbortCheck p s) := by
  unfold Machine.takeAbortCheck
  split
  · exact h.refuse ..
  · have zeroed := h.of_same ((SameRun.zeroUnderTest s).sameCollections s.zeroUnderTest_heldSet)
    have aborted : RunStructure (s.zeroUnderTest.modCheck fun r => { r with omitted := r.notBegun, aborted := true }) :=
      zeroed.of_same ⟨.modCheck .., rfl⟩
    exact (aborted.of_served (endCheck_served _) (State.endCheck_heldSet _)).answer ..

/-! ### Resets -/

/-- With no active context every collection is empty. -/
theorem Collections.empty (priority : ContextId → Nat) : Collections (fun _ => none) priority [] [] [] := by
  constructor <;> simp

theorem RunStructure.of_free {s : State} (hfree : ∀ c, s.ctx c = none) (hchain : s.chain = []) (hready : s.ready = [])
    (hheld : s.heldSet = []) : RunStructure s := by
  refine runStructure_of (Collections.empty _) (funext fun c => ?_) rfl hchain hready hheld
  rw [State.standing, hfree c]
  rfl

theorem RunStructure.clearBlocks (s : State) : RunStructure s.clearBlocks :=
  .of_free (fun _ => replicate_get ..) rfl rfl rfl

theorem RunStructure.start (s : State) (straps : Vector Level 4) (ph : Phase) : RunStructure (s.start straps ph) :=
  (RunStructure.clearBlocks s).of_same ⟨⟨rfl, rfl, rfl⟩, rfl⟩

theorem RunStructure.takeDeviceRestart {s : State} (h : RunStructure s) (p : PortId) :
    RunStructure (takeDeviceRestart p s) := by
  unfold Machine.takeDeviceRestart
  split
  · exact h.refuse ..
  · have same : SameCollections s.dropCheck.clearBlocks (s.restart p) := ⟨⟨rfl, rfl, rfl⟩, rfl⟩
    exact ((RunStructure.clearBlocks _).of_same same).answer ..

theorem State.activeOwnedBy_eq (s : State) (q : PortId) (c : ContextId) :
    s.activeOwnedBy q c = (s.ownedBy q c && (s.standing c).isSome) := by
  unfold State.activeOwnedBy State.ownedBy State.standing
  cases hk : s.ctx c with
  | none => rfl
  | some k => cases hactive : k.state.isActive <;> simp [standingOf_active, standingOf_inactive, hactive]

theorem State.resetPort_heldSet (s : State) (p q : PortId) :
    (s.resetPort p q).heldSet = (s.withdraw (s.activeOwnedBy q)).heldSet := by
  unfold State.resetPort
  simp

/-- A port's active contexts leave together, and then all its slots, which hold inactive contexts, become FREE (R173). -/
theorem RunStructure.resetPort {s : State} (h : RunStructure s) (p q : PortId) : RunStructure (s.resetPort p q) := by
  have left := h.withdraw (u := s) (w := s.activeOwnedBy q) rfl rfl rfl rfl fun _ _ => rfl
  have freed (c : ContextId) : (s.resetPort p q).ctx c =
      if s.ownedBy q c then none else (s.withdraw (s.activeOwnedBy q)).ctx c := by
    rw [State.resetPort_ctx, State.freedOf, State.freeSlots_ctx]
  have active {c : ContextId} (hc : c ∈ s.chain ∨ c ∈ s.ready) : s.standing c ≠ none := fun hnone => by
    obtain ⟨notChain, notReady, -⟩ := ((runStructure_iff s).mp h).not_mem hnone
    exact hc.elim notChain notReady
  rw [runStructure_iff, State.resetPort_chain, State.resetPort_ready, State.resetPort_heldSet, State.freedOf,
    State.freeSlots_chain, State.freeSlots_ready]
  refine left.congr (fun c => ?_) fun c hc => ?_
  · rw [State.standing, freed, without, State.activeOwnedBy_eq]
    cases howned : s.ownedBy q c with
    | false => rfl
    | true =>
      cases hst : s.standing c with
      | some st => rfl
      | none =>
        rcases s.withdraw_ctx_member (s.activeOwnedBy q) c with same | ⟨⟨hmem, -⟩, -⟩
        · exact ((State.standing_congr same).trans hst).symm
        · exact absurd hst (active hmem)
  · obtain ⟨hmem, hstays⟩ := State.mem_withdraw (.inr hc)
    have other : s.ownedBy q c = false := by
      rw [State.activeOwnedBy_eq, Option.isSome_iff_ne_none.mpr (active hmem), Bool.and_true] at hstays
      exact hstays
    refine State.priorityOf_congr ?_
    rw [freed, other]
    rfl

theorem RunStructure.takePortReset {s : State} (h : RunStructure s) (p : PortId) (target : Byte) :
    RunStructure (takePortReset p target s) := by
  unfold Machine.takePortReset
  split
  · exact h.refuse ..
  · exact ((h.resetPort ..).answer ..).serviceIf _

end Sys2Proof.Machine
end

section
/-! PROOFS. Every command and event, and so every step, keeps the run structure whole. -/

namespace Sys2Proof.Machine

/-! ### Every command -/

/-- The commands that change no context, collection, map or check leave the held set alone too. -/
theorem runCommand_heldSet (i : Instr) (s : State) (h : changesRun i = false) : (runCommand i s).heldSet = s.heldSet := by
  cases i with
  | portReset | deviceRestart | writeMap | clearFaults | defineContext | setParams | clearContext | freeContext
  | writeGate | invoke | hold | resume | abort | startCheck | abortCheck => cases h
  | echo p data =>
    show (takeEcho p data s).heldSet = _
    unfold takeEcho
    split <;> rfl
  | readMap p target =>
    show (takeReadMap p target s).heldSet = _
    unfold takeReadMap
    split <;> rfl
  | translate p page =>
    show (takeTranslate p page s).heldSet = _
    unfold takeTranslate
    split <;> rfl
  | readWords p page offset count =>
    show (takeReadWords p page offset count s).heldSet = _
    unfold takeReadWords
    split
    · rfl
    · split <;> rfl
  | writeWords p page offset count words =>
    show (takeWriteWords p page offset count words s).heldSet = _
    unfold takeWriteWords
    split
    · rfl
    · split <;> rfl
  | readContext p slot =>
    show (takeReadContext p slot s).heldSet = _
    unfold takeReadContext
    split <;> rfl
  | readGate p first count =>
    show (takeReadGate p first count s).heldSet = _
    unfold takeReadGate
    split <;> rfl
  | configLine p line fields =>
    show (takeConfigLine p line fields s).heldSet = _
    unfold takeConfigLine
    split <;> rfl
  | clearLine p line =>
    show (takeClearLine p line s).heldSet = _
    unfold takeClearLine
    split <;> rfl
  | setTimer p reload run =>
    show (takeSetTimer p reload run s).heldSet = _
    unfold takeSetTimer
    split <;> rfl
  | clearEvents p flags =>
    show (takeClearEvents p flags s).heldSet = _
    unfold takeClearEvents
    split <;> rfl
  | setAttention p mask =>
    show (takeSetAttention p mask s).heldSet = _
    unfold takeSetAttention
    split <;> rfl
  | setPort | readPageFaults | readRun | readLines | readCheck | readEvents | readCompletions => rfl
  | select | deselect | byteExchange | receiveTimerExpiry | dataRunWordAccess | elementStep | pinLevelChange
  | debounceExpiry | validationExpiry | intervalTimerExpiry | referenceTestComplete | pageTestComplete
  | pairTestComplete | powerOn | startupComplete | resetAssert | resetRelease | remainingCountFalls => rfl

theorem takeWriteMap_heldSet (p : PortId) (fs : List MapFields) (s : State) :
    (takeWriteMap p fs s).heldSet = s.heldSet := by
  unfold takeWriteMap
  split <;> rfl

@[simp] theorem State.clearFaults_heldSet (s : State) (pages : PageSet) (kinds : FaultSet) (off : Bool) :
    (s.clearFaults pages kinds off).heldSet = s.heldSet := by unfold State.clearFaults; rfl

theorem takeClearFaults_heldSet (p : PortId) (pages : PageSet) (kinds : FaultSet) (off : Bool) (s : State) :
    (takeClearFaults p pages kinds off s).heldSet = s.heldSet := by
  unfold takeClearFaults
  split
  · rfl
  · simp

theorem RunStructure.runCommand {s : State} (h : RunStructure s) (i : Instr) : RunStructure (runCommand i s) := by
  cases i with
  | portReset p target => exact h.takePortReset p target
  | deviceRestart p => exact h.takeDeviceRestart p
  | writeMap p fs => exact h.of_same ⟨takeWriteMap_sameContexts p fs s, takeWriteMap_heldSet p fs s⟩
  | clearFaults p pages kinds off =>
    exact h.of_same ⟨takeClearFaults_sameContexts p pages kinds off s, takeClearFaults_heldSet p pages kinds off s⟩
  | defineContext p slot block => exact h.takeDefineContext p slot block
  | setParams p slot block => exact h.takeSetParams p slot block
  | clearContext p slot => exact h.takeClearContext p slot
  | freeContext p slot => exact h.takeFreeContext p slot
  | writeGate p gate present fields => exact h.takeWriteGate p gate present fields
  | invoke p gate => exact h.takeInvoke p gate
  | hold p slot => exact h.takeHold p slot
  | resume p slot => exact h.takeResume p slot
  | abort p slot => exact h.takeAbort p slot
  | startCheck p pages request => exact h.takeStartCheck p pages request
  | abortCheck p => exact h.takeAbortCheck p
  | _ => exact h.of_same ((runCommand_sameRun _ s rfl).sameCollections (runCommand_heldSet _ s rfl))

/-! ### Frames and data runs -/

theorem RunStructure.takeFrame {s : State} (h : RunStructure s) (p : PortId) (frame : List Byte) :
    RunStructure (takeFrame p frame s) := by
  unfold Machine.takeFrame
  split
  · exact h.runCommand _
  · exact h.refuse ..

theorem RunStructure.takeLength {s : State} (h : RunStructure s) (p : PortId) (b : Byte) :
    RunStructure (s.takeLength p b) := by
  unfold State.takeLength
  split_ifs
  · exact h
  · exact (h.of_same (.modPort ..)).refuse ..
  · exact h.of_same (.modPort ..)

theorem RunStructure.takeIn {s : State} (h : RunStructure s) (p : PortId) (b : Byte) : RunStructure (s.takeIn p b) := by
  unfold State.takeIn
  split
  · exact h.takeLength p b
  · exact h
  · unfold State.addByte frameCompleted
    split
    · split
      · exact (h.of_same (.modPort ..)).takeFrame ..
      · exact h.of_same ((SameCollections.modPort ..).trans (.modPort ..))
    · exact h.of_same (.modPort ..)
  · exact h

theorem RunStructure.endRun {s : State} (h : RunStructure s) (p : PortId) (code : Byte) (st : Status)
    (rs : List Byte) : RunStructure (s.endRun p code st rs) := by
  have ended : RunStructure ((s.modPort p fun pt => { pt with run := none }).answer p code st rs) :=
    (h.of_same (.modPort ..)).answer ..
  unfold State.endRun State.takeKept
  split
  · exact ended
  · exact (ended.of_same (.modPort ..)).takeFrame ..

theorem RunStructure.accessRead {s : State} (h : RunStructure s) (p : PortId) (fails : Bool) (a : LogicalAddress)
    (left : Nat) (got : List Word) : RunStructure (s.accessRead p fails a left got) := by
  unfold State.accessRead
  split
  · exact h.endRun ..
  · dsimp only
    split_ifs
    · have failed := (SameRun.wordCheckFailure s (s.entryFor p a).page).sameCollections
        (State.wordCheckFailure_heldSet ..)
      exact (h.of_same failed).endRun ..
    · exact h.endRun ..
    · exact h.of_same (.modPort ..)

theorem RunStructure.accessWrite {s : State} (h : RunStructure s) (p : PortId) (a : LogicalAddress)
    (rest : List Word) (written : Nat) : RunStructure (s.accessWrite p a rest written) := by
  have stored (m : Memory) : SameCollections s { s with words := m } := ⟨⟨rfl, rfl, rfl⟩, rfl⟩
  unfold State.accessWrite
  split
  · exact h.endRun ..
  · split
    · exact h.endRun ..
    · dsimp only
      split_ifs
      · exact (h.of_same (stored _)).endRun ..
      · exact h.of_same ((stored _).trans (.modPort ..))

theorem RunStructure.accessWord {s : State} (h : RunStructure s) (p : PortId) (fails : Bool) :
    RunStructure (s.accessWord p fails) := by
  unfold State.accessWord
  split
  · exact h
  · exact h.accessRead ..
  · exact h.accessWrite ..

/-! ### Lines and the interval timer -/

theorem RunStructure.enterPending {s : State} (h : RunStructure s) (l : LineId) : RunStructure (s.enterPending l) :=
  (h.of_same (.modLine ..)).servicePass

theorem RunStructure.qualifyingEdge {s : State} (h : RunStructure s) (l : LineId) :
    RunStructure (s.qualifyingEdge l) := by
  unfold State.qualifyingEdge
  split_ifs
  · exact h.of_same (.modLine ..)
  · exact h.of_same (.modLine ..)
  · exact h.enterPending l

theorem RunStructure.pinChanged {s : State} (h : RunStructure s) (l : LineId) (level : PinLevel) :
    RunStructure (s.pinChanged l level) := by
  unfold State.pinChanged
  split
  · split_ifs
    · exact h.qualifyingEdge l
    · exact h
  · split_ifs
    · exact h
    · exact h.of_same (.modLine ..)
  all_goals exact h

theorem RunStructure.debounceExpired {s : State} (h : RunStructure s) (l : LineId) :
    RunStructure (s.debounceExpired l) := by
  unfold State.debounceExpired
  split
  · split_ifs
    · exact h.of_same (.modLine ..)
    · exact h.of_same (.modLine ..)
    · exact h.enterPending l
  all_goals exact h

theorem RunStructure.validationExpired {s : State} (h : RunStructure s) (l : LineId) :
    RunStructure (s.validationExpired l) := by
  unfold State.validationExpired
  split
  · exact h.enterPending l
  all_goals exact h

theorem RunStructure.intervalExpired {s : State} (h : RunStructure s) : RunStructure s.intervalExpired := by
  unfold State.intervalExpired
  refine RunStructure.serviceIf ?_ _
  exact h.of_same ⟨⟨rfl, rfl, rfl⟩, rfl⟩

theorem RunStructure.countFalls {s : State} (h : RunStructure s) : RunStructure s.countFalls := by
  unfold State.countFalls
  split_ifs
  · exact h
  · exact h.intervalExpired
  · exact h.of_same ⟨⟨rfl, rfl, rfl⟩, rfl⟩

/-! ### Every event -/

theorem RunStructure.whenOperating {s t : State} (h : RunStructure s) (effect : State → State)
    (heffect : RunStructure (effect s)) (hnext : whenOperating s effect = .next t) : RunStructure t := by
  rw [whenOperating_next] at hnext
  cases hnext
  split
  · exact heffect
  · exact h

theorem RunStructure.byteExchange {s t : State} (h : RunStructure s) {p : PortId} {b : Byte}
    (hnext : execByteExchange p b s = .next t) : RunStructure t := by
  unfold execByteExchange at hnext
  split at hnext
  · split at hnext <;> cases hnext
    · exact (h.of_same (.modPort ..)).takeIn p b
    all_goals exact h.of_same (.modPort ..)
  · cases hnext
    exact h

theorem RunStructure.pinLevelChange {s t : State} (h : RunStructure s) {l : LineId} {level : PinLevel}
    (hnext : execPinLevelChange l level s = .next t) : RunStructure t := by
  have sampled : RunStructure (s.setPin l level) := h.of_same ⟨⟨rfl, rfl, rfl⟩, rfl⟩
  unfold execPinLevelChange at hnext
  split at hnext
  · cases hnext
    exact h
  · split at hnext <;> cases hnext
    · exact sampled.pinChanged l level
    all_goals exact sampled

theorem RunStructure.stop {s : State} (h : RunStructure s) (ph : Phase) : RunStructure (s.stop ph) :=
  h.of_same ((SameRun.stop s ph).sameCollections rfl)

theorem RunStructure.startupComplete {s t : State} (h : RunStructure s) {straps : Vector Level 4}
    (hnext : execStartupComplete straps s = .next t) : RunStructure t := by
  unfold execStartupComplete at hnext
  split at hnext <;> cases hnext
  · exact .start ..
  · exact .start ..
  · exact h
  · exact h

theorem RunStructure.resetRelease {s t : State} (h : RunStructure s) {straps : Vector Level 4}
    (hnext : execResetRelease straps s = .next t) : RunStructure t := by
  unfold execResetRelease at hnext
  split at hnext <;> cases hnext
  · exact .start ..
  · exact .start ..
  · exact h
  · exact h

theorem RunStructure.command {i : Instr} {p : PortId} (hp : i.commandPort = some p) {s t : State}
    (h : RunStructure s) (hnext : exec i s = .next t) : RunStructure t := by
  rw [exec_command hp] at hnext
  rcases takenAt_next p i s (Machine.runCommand i) with h' | h' | h' <;> rw [h'] at hnext <;> cases hnext
  · exact h
  · exact h.runCommand i
  · exact h.of_same (.modPort ..)

theorem RunStructure.exec {i : Instr} {s t : State} (h : RunStructure s) (hnext : exec i s = .next t) :
    RunStructure t := by
  cases hp : i.commandPort with
  | some p => exact h.command hp hnext
  | none =>
    cases i with
    | select p => cases hnext; exact h.of_same (.modPort ..)
    | deselect p => cases hnext; exact h.of_same (.modPort ..)
    | byteExchange p b => exact h.byteExchange hnext
    | receiveTimerExpiry p => exact h.whenOperating (fun s => s.modPort p Port.onTimeout) (h.of_same (.modPort ..)) hnext
    | dataRunWordAccess p fails => exact h.whenOperating (fun s => s.accessWord p fails) (h.accessWord p fails) hnext
    | elementStep f => exact h.whenOperating (fun s => s.elementStep f) (h.elementStep f) hnext
    | pinLevelChange l level => exact h.pinLevelChange hnext
    | debounceExpiry l => exact h.whenOperating (fun s => s.debounceExpired l) (h.debounceExpired l) hnext
    | validationExpiry l => exact h.whenOperating (fun s => s.validationExpired l) (h.validationExpired l) hnext
    | intervalTimerExpiry =>
      refine h.whenOperating (fun s => if s.timer.running then s.intervalExpired else s) ?_ hnext
      split
      · exact h.intervalExpired
      · exact h
    | referenceTestComplete o =>
      exact h.whenOperating (fun s => s.completeReference o)
        (h.of_served (completeReference_served s o) (s.completeReference_heldSet o)) hnext
    | pageTestComplete o =>
      exact h.whenOperating (fun s => s.completePage o)
        (h.of_served (completePage_served s o) (s.completePage_heldSet o)) hnext
    | pairTestComplete o =>
      exact h.whenOperating (fun s => s.completePair o)
        (h.of_served (completePair_served s o) (s.completePair_heldSet o)) hnext
    | powerOn => cases hnext; exact h.stop _
    | startupComplete straps => exact h.startupComplete hnext
    | resetAssert => cases hnext; exact h.stop _
    | resetRelease straps => exact h.resetRelease hnext
    | remainingCountFalls => exact h.whenOperating State.countFalls h.countFalls hnext
    | _ => cases hp

/-- Settles O55: the run structure, as collections over what the slots hold, is kept by every operation on it, and so
by every command and event. -/
theorem stepsKeepTheRunStructureWhole : Obligations.StepsKeepTheRunStructureWhole := by
  intro s t h hstep
  unfold step at hstep
  split at hstep
  · cases hstep
    exact h
  · have taken (rest : List Instr) : SameCollections s (s.withPending rest) :=
      (SameRun.withPending ..).sameCollections rfl
    exact (h.of_same (taken _)).exec hstep

end Sys2Proof.Machine
end

section
/-! PROOFS. The run commands: HOLD (R77 to R79), RESUME (R80) and ABORT (R81). -/

namespace Sys2Proof.Machine

/-! ### Rules shared by the three commands -/

theorem State.mayControl_iff {s : State} {p : PortId} {k : Context} :
    s.mayControl p k = true ↔ k.owner = p ∨ k.startedBy = some (.port p) ∨ s.level p = 0 := by
  simp [State.mayControl, or_assoc]

/-- Checks 1 to 3 of R77. -/
theorem checkControl_outcomes (p : PortId) (slot : Byte) (s : State) :
    (31 < slot.toNat → checkControl p slot s = .error .param) ∧
    ∀ c : ContextId, slot.toNat = c.val →
      (s.ctx c = none → checkControl p slot s = .error .noContext) ∧
      ∀ k, s.ctx c = some k →
        (k.owner ≠ p ∧ k.startedBy ≠ some (.port p) ∧ s.level p ≠ 0 → checkControl p slot s = .error .denied) ∧
        (k.owner = p ∨ k.startedBy = some (.port p) ∨ s.level p = 0 → checkControl p slot s = .ok (c, k)) := by
  unfold checkControl
  refine ⟨fun hslot => ?_, fun c hc => ?_⟩
  · rw [indexOf_eq_none.mpr hslot]
  · rw [indexOf_eq_some.mpr hc]
    dsimp only
    refine ⟨fun hfree => by rw [hfree], fun k hk => ?_⟩
    rw [hk]
    dsimp only
    simp only [ne_eq, ← not_or, ← State.mayControl_iff]
    exact ⟨fun hno => if_neg hno, fun hyes => if_pos hyes⟩

/-- A run command: the refusals of R77, and whatever follows where its checks pass. -/
theorem control_outcomes {p : PortId} {slot : Byte} {s : State} {code : Byte} {run : Outcome}
    {P : ContextId → Context → Prop}
    (herror : ∀ st, checkControl p slot s = .error st → run = .next (s.answer p code st []))
    (hok : ∀ c k, s.ctx c = some k → checkControl p slot s = .ok (c, k) → P c k) :
    (31 < slot.toNat → run = .next (s.answer p code .param [])) ∧
    ∀ c : ContextId, slot.toNat = c.val →
      (s.ctx c = none → run = .next (s.answer p code .noContext [])) ∧
      ∀ k, s.ctx c = some k →
        (k.owner ≠ p ∧ k.startedBy ≠ some (.port p) ∧ s.level p ≠ 0 → run = .next (s.answer p code .denied [])) ∧
        (k.owner = p ∨ k.startedBy = some (.port p) ∨ s.level p = 0 → P c k) := by
  obtain ⟨noSlot, slots⟩ := checkControl_outcomes p slot s
  refine ⟨fun hslot => herror _ (noSlot hslot), fun c hc => ?_⟩
  obtain ⟨free, defined⟩ := slots c hc
  refine ⟨fun hfree => herror _ (free hfree), fun k hk => ?_⟩
  obtain ⟨denied, allowed⟩ := defined k hk
  exact ⟨fun hno => herror _ (denied hno), fun hyes => hok c k hk (allowed hyes)⟩

/-! ### HOLD -/

theorem takeHold_of_held {p : PortId} {slot : Byte} {s : State} {c : ContextId} {k : Context}
    (h : checkControl p slot s = .ok (c, k))
    (hstate : k.state = .ready ∨ (k.state = .running ∧ s.backLink c = none)) :
    takeHold p slot s = (s.holdContext c).answer p 0x40 .ok [] := by
  rw [takeHold, h]
  rcases hstate with hready | ⟨hrunning, hlink⟩
  · simp only [hready]
  · simp only [hrunning, hlink]

theorem takeHold_of_chained {p : PortId} {slot : Byte} {s : State} {c : ContextId} {k : Context}
    (h : checkControl p slot s = .ok (c, k))
    (hstate : k.state = .preempted ∨ (k.state = .running ∧ ∃ b, s.backLink c = some b)) :
    takeHold p slot s = s.answer p 0x40 .chained [] := by
  rw [takeHold, h]
  rcases hstate with hpreempted | ⟨hrunning, b, hlink⟩
  · simp only [hpreempted]
    rfl
  · simp only [hrunning, hlink]
    rfl

theorem takeHold_of_inactive {p : PortId} {slot : Byte} {s : State} {c : ContextId} {k : Context}
    (h : checkControl p slot s = .ok (c, k)) (hstate : k.state ∈ [.held, .idle, .done, .faulted]) :
    takeHold p slot s = s.answer p 0x40 .state [] := by
  rw [takeHold, h]
  simp only [List.mem_cons, List.not_mem_nil, or_false] at hstate
  rcases hstate with hst | hst | hst | hst <;> simp only [hst] <;> rfl

/-- The members of the held set once a context has entered it, where it stood or not. -/
theorem mem_insertAscending_filter {c d : ContextId} {l : List ContextId} :
    d ∈ insertAscending c (l.filter fun e => !decide (e = c)) ↔ d = c ∨ d ∈ l := by
  rw [mem_insertAscending]
  by_cases hd : d = c <;> simp [hd]

/-- Settles O26: the refusals of R77, then HOLD by the state of the context. -/
theorem holdMovesAContextToTheHeldSet : Obligations.HoldMovesAContextToTheHeldSet := by
  intro p slot s htakes run
  have hrun : run = .next (takeHold p slot s) := exec_of_takes rfl htakes
  refine control_outcomes (fun st h => ?_) fun c k hk h =>
    ⟨fun hstate => ?_, fun hstate => ?_, fun hstate b hb => ?_, fun hstate => ?_⟩
  · rw [hrun, takeHold, h]
    rfl
  · rw [hrun, takeHold_of_inactive h hstate]
  · rw [hrun, takeHold_of_chained h (.inl hstate)]
  · rw [hrun, takeHold_of_chained h (.inr ⟨hstate, b, hb⟩)]
  · have written := State.modCtx_of_some hk fun k => { k with state := .held, nested := false }
    rw [hrun, takeHold_of_held h hstate, State.holdContext, written]
    refine ⟨_, rfl, rfl, ?_, fun d hd => ?_, fun hasc => insertAscending_ascending ?_⟩
    · exact mem_insertAscending.mpr (.inl rfl)
    · dsimp only
      rw [State.withdraw_heldSet, mem_insertAscending_filter]
      simp [hd]
    · rw [State.withdraw_heldSet]
      exact hasc.filter _

/-! ### RESUME -/

theorem State.resumeContext_alone {s : State} {c : ContextId} {k : Context} (hk : s.ctx c = some k)
    (hchain : s.chain = []) :
    s.resumeContext c = { s with
      heldSet := s.heldSet.filter fun d => d ≠ c, chain := [c]
      contexts := update s.contexts c (some (k.withState .running)) } := by
  have written := State.modCtx_of_some (s := { s with heldSet := s.heldSet.filter fun d => d ≠ c }) hk
    fun k => k.withState .running
  unfold State.resumeContext
  split
  · exact congrArg (fun u : State => { u with chain := [c] }) written
  · rename_i hfull
    cases hchain.symm.trans hfull

theorem State.resumeContext_waits {s : State} {c : ContextId} {k : Context} (hk : s.ctx c = some k)
    (hchain : s.chain ≠ []) :
    s.resumeContext c = { s with
      heldSet := s.heldSet.filter fun d => d ≠ c, ready := insertByPriority s.priorityOf c s.ready
      contexts := update s.contexts c (some (k.withState .ready)) } := by
  have written := State.modCtx_of_some (s := { s with heldSet := s.heldSet.filter fun d => d ≠ c }) hk
    fun k => k.withState .ready
  unfold State.resumeContext
  split
  · rename_i hempty
    exact absurd hempty hchain
  · exact congrArg (fun u : State => { u with ready := insertByPriority s.priorityOf c s.ready }) written

theorem State.resumedState_alone {s : State} (hchain : s.chain = []) : s.resumedState = .running := by
  rw [State.resumedState, hchain]

theorem State.resumedState_waits {s : State} (hchain : s.chain ≠ []) : s.resumedState = .ready := by
  unfold State.resumedState
  split
  · rename_i hempty
    exact absurd hempty hchain
  · rfl

/-- Settles O27: the refusals of R77 and R80, and the two places that a HELD context can take. -/
theorem resumeContinuesAHeldContext : Obligations.ResumeContinuesAHeldContext := by
  intro p slot s htakes run
  have hrun : run = .next (takeResume p slot s) := exec_of_takes rfl htakes
  refine control_outcomes (fun st h => ?_) fun c k hk h =>
    ⟨fun hstate => ?_, fun hstate hchain => ?_, fun hstate hchain => ?_⟩ <;> rw [hrun, takeResume, h]
  · rfl
  · dsimp only
    rw [if_neg hstate]
    rfl
  · dsimp only
    rw [if_pos hstate, State.resumeContext_alone hk hchain, State.resumedState_alone hchain]
    rfl
  · dsimp only
    rw [if_pos hstate, State.resumeContext_waits hk hchain, State.resumedState_waits hchain]
    obtain ⟨before, after, hready, hinsert, hbefore, hafter⟩ := insertByPriority_splits s.priorityOf c s.ready
    rw [State.priorityOf_of_some hk] at hbefore hafter
    rw [hinsert]
    exact ⟨before, after, hready, hbefore, hafter, rfl⟩

/-! ### ABORT -/

theorem State.noticePorts_iff {s : State} {c : ContextId} {k : Context} (hk : s.ctx c = some k) (q : PortId) :
    s.noticePorts c q = true ↔
      q = k.owner ∨ k.startedBy = some (.port q) ∨
        ∃ l, k.startedBy = some (.line l) ∧ (s.line l).config.report = q := by
  rw [State.noticePorts, hk]
  dsimp only
  cases k.startedBy with
  | none => simp
  | some who =>
    cases who with
    | port r => simp [eq_comm (a := q) (b := r)]
    | line l => simp [eq_comm (a := q) (b := (s.line l).config.report)]

/-- Settles O28: the refusals of R77 and R81, and the end of an active context. -/
theorem abortFaultsAnActiveContext : Obligations.AbortFaultsAnActiveContext := by
  intro p slot s htakes run
  have hrun : run = .next (takeAbort p slot s) := exec_of_takes rfl htakes
  refine control_outcomes (fun st h => ?_) fun c k hk h => ⟨fun hstate => ?_, fun hstate => ?_⟩ <;>
    rw [hrun, takeAbort, h]
  · rfl
  · dsimp only
    rw [ContextState.inactive_of_mem hstate]
    rfl
  · dsimp only
    rw [if_pos (ContextState.isActive_of_mem hstate)]
    refine ⟨_, rfl, ?_, fun q => ?_⟩
    · rw [State.modCtx_of_some hk]
      rfl
    · have left : ((s.modCtx c fun k => k.ended .faulted (some .aborted)).withdraw (· = c)).ctx c =
          some (k.ended .faulted (some .aborted)) := by
        rw [State.withdraw_ctx_leaver (decide_eq_true rfl), State.modCtx_ctx_self, hk]
        rfl
      rw [State.postNotice_eventsAt]
      simp only [State.noticePorts_iff left, State.withdraw_line, State.withdraw_eventsAt]
      rfl

end Sys2Proof.Machine
end

section
/-! PROOFS. PORT_RESET (R172 to R174, R87, R88). -/

namespace Sys2Proof.Machine

/-- The refusals of R172. -/
theorem checkPortReset_outcomes (p : PortId) (target : Byte) (s : State) :
    (indexOf 4 target = none → checkPortReset p target s = .error .param) ∧
    ∀ q : PortId, indexOf 4 target = some q →
      (q ≠ p ∧ s.level p ≠ 0 → checkPortReset p target s = .error .denied) ∧
      (q = p ∨ s.level p = 0 → checkPortReset p target s = .ok q) := by
  unfold checkPortReset
  refine ⟨fun hnone => by rw [hnone], fun q hq => ?_⟩
  rw [hq]
  dsimp only
  rw [← not_or]
  exact ⟨fun hno => if_neg hno, fun hyes => if_pos hyes⟩

theorem takePortReset_of_error {p : PortId} {target : Byte} {s : State} {st : Status}
    (h : checkPortReset p target s = .error st) : takePortReset p target s = s.answer p 0x03 st [] := by
  rw [takePortReset, h]
  rfl

theorem takePortReset_of_ok {p q : PortId} {target : Byte} {s : State} (h : checkPortReset p target s = .ok q) :
    takePortReset p target s = ((s.resetPort p q).answer p 0x03 .ok []).serviceIf (s.mapLocked q) := by
  rw [takePortReset, h]

/-! ### What the reset of a port leaves, block by block -/

/-- A state that shares the other blocks with `s`, written as `s` with its own contexts, collections, maps, events, lines
and ports. -/
theorem State.eq_of_other_blocks {r s : State} (phase : r.phase = s.phase) (words : r.words = s.words)
    (faults : r.faults = s.faults) (heldMarks : r.heldMarks = s.heldMarks) (offline : r.offline = s.offline)
    (gates : r.gates = s.gates) (pins : r.pins = s.pins) (timer : r.timer = s.timer) (check : r.check = s.check)
    (pending : r.pending = s.pending) :
    r = { s with
      chain := r.chain, ready := r.ready, heldSet := r.heldSet, contexts := r.contexts, maps := r.maps
      events := r.events, lines := r.lines, ports := r.ports } := by
  rw [← phase, ← words, ← faults, ← heldMarks, ← offline, ← gates, ← pins, ← timer, ← check, ← pending]

theorem State.resetPort_frame (s : State) (p q : PortId) :
    s.resetPort p q = { s with
      chain := (s.resetPort p q).chain, ready := (s.resetPort p q).ready, heldSet := (s.resetPort p q).heldSet
      contexts := (s.resetPort p q).contexts, maps := (s.resetPort p q).maps, events := (s.resetPort p q).events
      lines := (s.resetPort p q).lines, ports := (s.resetPort p q).ports } := by
  apply State.eq_of_other_blocks <;> simp [State.resetPort]

theorem State.resetPort_entry (s : State) (p q x : PortId) (l : LogicalPage) :
    (s.resetPort p q).entry x l = if x = q then ⟨0, .absent⟩ else s.entry x l := by
  unfold State.entry
  rw [State.resetPort_maps, update_get]
  split
  · exact replicate_get ..
  · rfl

theorem State.resetPort_eventsAt (s : State) (p q x : PortId) :
    (s.resetPort p q).eventsAt x =
      if x = q then PortEvents.initial
      else { s.eventsAt x with
        completions := Vector.ofFn fun c => if s.ownedBy q c then none else (s.eventsAt x).completions[c] } := by
  have written : (s.resetPort p q).eventsAt x =
      if x = q then PortEvents.initial else (s.freedOf q).eventsAt x := update_get ..
  rw [written, State.freedOf, State.freeSlots_eventsAt, State.withdraw_eventsAt]

theorem State.resetPort_line (s : State) (p q : PortId) (l : LineId) :
    (s.resetPort p q).line l =
      { s.line l with lastStarted := (s.line l).lastStarted.filter fun c => !s.ownedBy q c }.releasedFrom q := by
  have written : (s.resetPort p q).line l = ((s.freedOf q).line l).releasedFrom q := ofFn_get ..
  rw [written, State.freedOf, State.freeSlots_line, State.withdraw_line]

theorem State.resetPort_port (s : State) (p q x : PortId) :
    (s.resetPort p q).port x =
      if x = q then (if q = p then (s.port q).resetBySelf else (s.port q).resetByOther) else s.port x := by
  have same (y : PortId) : (s.freedOf q).port y = s.port y := by simp [State.freedOf]
  have written : (s.resetPort p q).port x =
      if x = q then (if q = p then ((s.freedOf q).port q).resetBySelf else ((s.freedOf q).port q).resetByOther)
      else (s.freedOf q).port x := update_get ..
  rw [written, same, same]

/-- Step 5 of R173, field by field. -/
theorem Line.releasedFrom_eq (n : Line) (q : PortId) :
    n.releasedFrom q =
      { n with
        state := if n.state = .refused ∧ n.config.report = q then .listening else n.state
        debounceTimer := if n.state = .refused ∧ n.config.report = q then none else n.debounceTimer
        validationTimer := if n.state = .refused ∧ n.config.report = q then none else n.validationTimer } := by
  unfold Line.releasedFrom
  split <;> rfl

/-- Settles O9: the refusals of R172, and the reset of the target block by block. -/
theorem portResetClearsTheTargetPort : Obligations.PortResetClearsTheTargetPort := by
  intro p target s htakes
  have hrun : exec (.portReset p target) s = .next (takePortReset p target s) := exec_of_takes rfl htakes
  obtain ⟨param, targets⟩ := checkPortReset_outcomes p target s
  refine ⟨fun hnone => by rw [hrun, takePortReset_of_error (param hnone)], fun q hq => ?_⟩
  obtain ⟨denied, passes⟩ := targets q hq
  refine ⟨fun hno => by rw [hrun, takePortReset_of_error (denied hno)], fun hyes => ?_⟩
  refine ⟨s.resetPort p q, by rw [hrun, takePortReset_of_ok (passes hyes)], s.resetPort_frame p q, ?_, ?_,
    s.resetPort_heldSet p q, fun c => ?_, s.resetPort_entry p q, ?_, fun x hx => ?_, fun l => ?_, fun x hx => ?_,
    fun hother => ?_, fun hself => ?_⟩
  · rw [State.resetPort_chain, State.freedOf, State.freeSlots_chain]
  · rw [State.resetPort_ready, State.freedOf, State.freeSlots_ready]
  · rw [State.resetPort_ctx, State.freedOf, State.freeSlots_ctx]
  · rw [State.resetPort_eventsAt, if_pos rfl]
    rfl
  · rw [State.resetPort_eventsAt, if_neg hx]
    exact ⟨rfl, rfl, rfl, fun c => ofFn_get ..⟩
  · rw [State.resetPort_line, Line.releasedFrom_eq]
  · rw [State.resetPort_port, if_neg hx]
  · rw [State.resetPort_port, if_pos rfl, if_neg hother]
    rfl
  · rw [State.resetPort_port, if_pos rfl, if_pos hself]
    rfl

end Sys2Proof.Machine
end

section
/-! PROOFS. The element step below the last (R90 to R96), and the state after reset. -/

namespace Sys2Proof.Machine

/-! ### Writes in order (R93 stage 5) -/

theorem Memory.writeAll_append (m : Memory) (before after : List (Nat × Word)) :
    m.writeAll (before ++ after) = (m.writeAll before).writeAll after := by
  induction before generalizing m with
  | nil => rfl
  | cons head rest ih => exact ih _

/-- A word that no write of a list names is as it was. -/
theorem Memory.read_writeAll_other {m : Memory} (h : m.wf) {ws : List (Nat × Word)}
    (hws : ∀ x ∈ ws, x.1 < Config.storeWords) {a : Nat} (ha : ∀ x ∈ ws, x.1 ≠ a) : (m.writeAll ws).read a = m.read a := by
  induction ws generalizing m with
  | nil => rfl
  | cons head rest ih =>
    obtain ⟨inside, hrest⟩ := List.forall_mem_cons.mp hws
    obtain ⟨other, harest⟩ := List.forall_mem_cons.mp ha
    have written := ih (Memory.write_wf h inside head.2) hrest harest
    exact written.trans ((Memory.read_write h ..).trans (if_neg other.symm))

/-- The last write of a list to an address leaves its word there. -/
theorem Memory.read_writeAll_last {m : Memory} (h : m.wf) {before after : List (Nat × Word)} {a : Nat} {w : Word}
    (hws : ∀ x ∈ before ++ (a, w) :: after, x.1 < Config.storeWords) (ha : ∀ x ∈ after, x.1 ≠ a) :
    (m.writeAll (before ++ (a, w) :: after)).read a = w := by
  obtain ⟨hbefore, hrest⟩ := List.forall_mem_append.mp hws
  obtain ⟨inside, hafter⟩ := List.forall_mem_cons.mp hrest
  have stored := Memory.writeAll_wf h hbefore
  rw [Memory.writeAll_append]
  exact (Memory.read_writeAll_other (Memory.write_wf stored inside w) hafter ha).trans
    ((Memory.read_write stored ..).trans (if_pos rfl))

/-! ### The element step -/

theorem State.elementStep_of_running {s : State} {c : ContextId} {k : Context} {rest : List ContextId}
    (hchain : s.chain = c :: rest) (hk : s.ctx c = some k) (f : Option Nat) :
    s.elementStep f = s.stepContext c k f := by
  have runs : s.running = some c := by rw [State.running, hchain]; rfl
  rw [State.elementStep, runs]
  dsimp only
  rw [hk]

theorem State.elementStep_idle {s : State} (hchain : s.chain = []) (f : Option Nat) : s.elementStep f = s := by
  have runs : s.running = none := by rw [State.running, hchain]; rfl
  rw [State.elementStep, runs]

theorem State.storeCheckPasses_of_clean {s : State} {k : Context} (hon : s.offline = false)
    (hclean : ∀ g ∈ s.span k.owner k.block, s.carriesFault g = false) : s.storeCheckPasses k = true := by
  have clean : (s.span k.owner k.block).any s.carriesFault = false := by simpa using hclean
  rw [State.storeCheckPasses, hon, clean]
  rfl

theorem firstMasked_eq_none {m : SatSet} {sats : List SatKind} (h : ∀ x ∈ sats, satIn m x = false) :
    firstMasked m sats = none := by
  simpa [firstMasked] using h

/-- A step that passes every stage writes its results and advances the record (R93 stages 1 to 6). -/
theorem State.stepContext_passes {s : State} {c : ContextId} {k : Context} (hon : s.offline = false)
    (hclean : ∀ g ∈ s.span k.owner k.block, s.carriesFault g = false)
    (hsats : ∀ x ∈ (s.stepResult k).sats, satIn k.block.mask x = false) :
    s.stepContext c k none = s.finishStep c k (s.stepResult k) := by
  rw [State.stepContext, State.storeCheckPasses_of_clean hon hclean, failingAddress]
  dsimp only
  rw [firstMasked_eq_none hsats]
  rfl

theorem State.finishStep_below_last {s : State} {c : ContextId} {k : Context} (hk : s.ctx c = some k) {r : StepResult}
    (hbelow : k.continuation.next + 1 < k.block.count) :
    s.finishStep c k r = { s with
      words := s.words.writeAll (r.writes.map fun w => (s.physical k.owner w.1, w.2))
      contexts := update s.contexts c (some (k.advanced r)) } := by
  rw [State.finishStep, if_neg hbelow.ne]
  exact State.modCtx_of_some (s := s.writeResults k.owner r.writes) hk _

/-- Settles O39: a step that passes its stages below the last index, and no step with nothing running. -/
theorem elementStepWritesAndAdvances : Obligations.ElementStepWritesAndAdvances := by
  refine ⟨?_, fun s i hchain => ?_⟩
  · intro s c k rest hphase hstore hchain hk hon hclean n result hsats hbelow
    have hrun : exec (.elementStep none) s = .next (s.elementStep none) :=
      whenOperating_of_operating hphase fun s => s.elementStep none
    have inside (ws : List (LogicalAddress × Word)) :
        ∀ x ∈ ws.map (fun w => (s.physical k.owner w.1, w.2)), x.1 < Config.storeWords := by
      simp only [List.forall_mem_map]
      exact fun w _ => s.physical_lt k.owner w.1
    refine ⟨s.words.writeAll (result.writes.map fun w => (s.physical k.owner w.1, w.2)), ?_, fun a ha => ?_,
      fun before w after hwrites hafter => ?_⟩
    · rw [hrun, State.elementStep_of_running hchain hk, State.stepContext_passes hon hclean hsats,
        State.finishStep_below_last hk hbelow]
      rfl
    · exact Memory.read_writeAll_other hstore (inside _) (List.forall_mem_map.mpr ha)
    · have inside := inside result.writes
      rw [hwrites, List.map_append, List.map_cons] at inside ⊢
      exact Memory.read_writeAll_last hstore inside (List.forall_mem_map.mpr hafter)
  · have hrun : exec (.elementStep i) s = .next (if s.phase = .operating then s.elementStep i else s) :=
      whenOperating_next s fun s => s.elementStep i
    rw [hrun, State.elementStep_idle hchain, ite_self]

/-! ### The state after reset -/

theorem Line.initial_fits : LineFits Line.initial := by
  simp [LineFits, Line.initial]

theorem Port.initial_fits (level : Level) (dataOut : Byte) : PortFits (Port.initial level false dataOut) := by
  simp [PortFits, Port.initial]

/-- Settles O53: after reset every block is at its defaults, so no slot, mark or check is in the way of an invariant. -/
theorem safeStateHoldsAfterReset : Obligations.SafeStateHoldsAfterReset := by
  have cleared : State.reset.clearBlocks = State.reset := rfl
  have run := RunStructure.clearBlocks State.reset
  have records := RecordsGuarded.clearBlocks State.reset
  have pages := PagesGuarded.clearBlocks State.reset
  rw [cleared] at run records pages
  have line (l : LineId) : State.reset.line l = Line.initial := replicate_get ..
  have port (p : PortId) : State.reset.port p = Port.initial Config.resetLevel false Config.resetDataOut :=
    replicate_get ..
  have events (p : PortId) : State.reset.eventsAt p = PortEvents.initial := replicate_get ..
  refine ⟨Memory.wf_reset, run, records.records, pages.check, pages.spans, fun l => ?_, fun p => ?_, fun p => ?_,
    fun p c hc => ?_, fun l c hl => ?_⟩
  · rw [line]
    exact Line.initial_fits
  · rw [port]
    exact Port.initial_fits ..
  · rw [events]
    rfl
  · rw [events] at hc
    simp [PortEvents.initial] at hc
  · rw [line] at hl
    cases hl

end Sys2Proof.Machine
end

section
/-! PROOFS. Shifts (R100), saturation (R101), sums of 64 bits, and bit reversal (R120). -/

namespace Sys2Proof.Machine

/-! ### Shifts and saturation -/

/-- A right shift is the greatest integer not above the quotient (R100). -/
theorem shiftRight_floor (v : Int) (k : Nat) :
    shiftRight v k * 2 ^ k ≤ v ∧ v < (shiftRight v k + 1) * 2 ^ k := by
  have hpos : (0 : Int) < 2 ^ k := by positivity
  rw [shiftRight, Nat.cast_pow, Nat.cast_ofNat]
  exact ⟨Int.ediv_mul_le v hpos.ne', Int.lt_ediv_add_one_mul_self v hpos⟩

theorem saturate_above {lo hi v : Int} (h : hi < v) : saturate lo hi v = (hi, [.high]) := if_pos h

theorem saturate_below {lo hi v : Int} (h : v < lo) (hbounds : lo ≤ hi) : saturate lo hi v = (lo, [.low]) := by
  rw [saturate, if_neg (by omega), if_pos h]

theorem saturate_inside {lo hi v : Int} (hlo : lo ≤ v) (hhi : v ≤ hi) : saturate lo hi v = (v, []) := by
  rw [saturate, if_neg (by omega), if_neg (by omega)]

/-- The three cases of R101 between two bounds. -/
theorem saturate_cases {lo hi : Int} (hbounds : lo ≤ hi) (v : Int) :
    (hi < v → saturate lo hi v = (hi, [.high])) ∧ (v < lo → saturate lo hi v = (lo, [.low])) ∧
      (lo ≤ v → v ≤ hi → saturate lo hi v = (v, [])) :=
  ⟨saturate_above, fun h => saturate_below h hbounds, saturate_inside⟩

theorem saturate_mem {lo hi : Int} (hbounds : lo ≤ hi) (v : Int) :
    lo ≤ (saturate lo hi v).1 ∧ (saturate lo hi v).1 ≤ hi := by
  unfold saturate
  split_ifs <;> constructor <;> dsimp only <;> omega

/-- A sum that begins within 64 bits stays within them, since each addition saturates (R101). -/
theorem sum64_mem {start : Int} (hlo : -9223372036854775808 ≤ start) (hhi : start ≤ 9223372036854775807)
    (ts : List Int) :
    -9223372036854775808 ≤ (sum64 start ts).1 ∧ (sum64 start ts).1 ≤ 9223372036854775807 := by
  induction ts generalizing start with
  | nil => exact ⟨hlo, hhi⟩
  | cons t ts ih =>
    obtain ⟨low, high⟩ := saturate_mem (lo := -9223372036854775808) (hi := 9223372036854775807) (by decide) (start + t)
    exact ih low high

/-- The last term is added to the sum of the terms before it, and its saturation is the last one noted (R101). -/
theorem sum64_concat (start t : Int) (ts : List Int) :
    sum64 start (ts ++ [t]) =
      ((saturate64 ((sum64 start ts).1 + t)).1, (sum64 start ts).2 ++ (saturate64 ((sum64 start ts).1 + t)).2) := by
  induction ts generalizing start with
  | nil => simp [sum64]
  | cons head rest ih => simp only [List.cons_append, sum64, ih, List.append_assoc]

/-! ### Bit reversal (R120) -/

theorem bitReverse_zero (n : Nat) : bitReverse 0 n = 0 := rfl

/-- One more bit: the bit of n above those reversed so far comes in at the bottom. -/
theorem bitReverse_succ (b n : Nat) : bitReverse (b + 1) n = 2 * bitReverse b n + n / 2 ^ b % 2 := by
  simp only [bitReverse, List.range_succ, List.foldl_concat]

theorem bitReverse_lt (b n : Nat) : bitReverse b n < 2 ^ b := by
  induction b with
  | zero => exact Nat.one_pos
  | succ b ih =>
    rw [bitReverse_succ, Nat.pow_succ]
    omega

theorem bitReverse_testBit {b i : Nat} (n : Nat) (h : i < b) :
    (bitReverse b n).testBit i = n.testBit (b - 1 - i) := by
  induction b generalizing i with
  | zero => exact absurd h (Nat.not_lt_zero i)
  | succ b ih =>
    have lowest : n / 2 ^ b % 2 < 2 := Nat.mod_lt _ Nat.two_pos
    rw [bitReverse_succ]
    cases i with
    | zero =>
      rw [Nat.testBit_zero, Nat.mul_add_mod, Nat.mod_mod, Nat.testBit_eq_decide_div_mod_eq]
      rfl
    | succ i =>
      have upper : (2 * bitReverse b n + n / 2 ^ b % 2) / 2 = bitReverse b n := by omega
      rw [Nat.testBit_succ, upper, ih (Nat.succ_lt_succ_iff.mp h)]
      congr 1
      omega

theorem bitReverse_bitReverse {b n : Nat} (h : n < 2 ^ b) : bitReverse b (bitReverse b n) = n := by
  refine Nat.eq_of_testBit_eq fun i => ?_
  rcases lt_or_ge i b with hi | hi
  · have mirrored : b - 1 - (b - 1 - i) = i := by omega
    rw [bitReverse_testBit _ hi, bitReverse_testBit _ (by omega), mirrored]
  · have beyond : 2 ^ b ≤ 2 ^ i := Nat.pow_le_pow_right Nat.two_pos hi
    rw [Nat.testBit_lt_two_pow ((bitReverse_lt ..).trans_le beyond), Nat.testBit_lt_two_pow (h.trans_le beyond)]

/-- The counts that REVERSE admits are powers of two (R121). -/
theorem two_pow_indexBits : ∀ count ∈ reverseCounts, 2 ^ indexBits count = count := by decide

/-- Settles O42: shifts, both saturations, the sum of terms, and bit reversal. -/
theorem shiftsSaturationAndBitReversal : Obligations.ShiftsSaturationAndBitReversal :=
  ⟨⟨shiftRight_floor, saturate_cases (by decide), saturate_cases (by decide), fun start t ts =>
      ⟨fun low high => sum64_mem low high ts, rfl, sum64_concat start t ts⟩⟩,
    fun _ n _ => bitReverse_testBit n, bitReverse_lt, fun _ _ => bitReverse_bitReverse, two_pow_indexBits⟩

end Sys2Proof.Machine
end

section
/-! PROOFS. The thirteen array operations, step by step (R104 to R120). -/

namespace Sys2Proof.Machine

/-- The six relations compare left and right value (R115). -/
theorem Relation.holds_iff (a b : Int) :
    (Relation.lt.holds a b = true ↔ a < b) ∧ (Relation.le.holds a b = true ↔ a ≤ b) ∧
      (Relation.eq.holds a b = true ↔ a = b) ∧ (Relation.ne.holds a b = true ↔ a ≠ b) ∧
      (Relation.gt.holds a b = true ↔ a > b) ∧ (Relation.ge.holds a b = true ↔ a ≥ b) :=
  ⟨decide_eq_true_iff, decide_eq_true_iff, decide_eq_true_iff, decide_eq_true_iff, decide_eq_true_iff,
    decide_eq_true_iff⟩

theorem compared_eq (mag : Bool) (v : Int) : compared mag v = if mag then |v| else v := by
  rw [compared, Int.natCast_natAbs]

/-! ### DOT (R109) -/

theorem dotResult_accumulator (z : Descriptor) (shift count n : Nat) (sum product : Int) :
    (dotResult z shift count n sum product).part = .accumulator (BitVec.ofInt 64 (saturate64 (sum + product)).1) := by
  unfold dotResult
  dsimp only
  split <;> rfl

/-- Below the last index a DOT step writes nothing. -/
theorem dotResult_below_last {count n : Nat} (h : n + 1 ≠ count) (z : Descriptor) (shift : Nat) (sum product : Int) :
    (dotResult z shift count n sum product).writes = [] ∧
      (dotResult z shift count n sum product).sats = (saturate64 (sum + product)).2 := by
  rw [dotResult, if_neg h]
  exact ⟨rfl, rfl⟩

/-- At the last index the new sum, shifted and saturated, is written at Z[0]. -/
theorem dotResult_last {count n : Nat} (h : n + 1 = count) (z : Descriptor) (shift : Nat) (sum product : Int) :
    let acc := saturate64 (sum + product)
    let out := saturate32 (shiftRight acc.1 shift)
    (dotResult z shift count n sum product).writes = [(z.address 0, BitVec.ofInt 32 out.1)] ∧
      (dotResult z shift count n sum product).sats = acc.2 ++ out.2 := by
  rw [dotResult, if_pos h]
  exact ⟨rfl, rfl⟩

/-! ### CMP and CMPS (R115, R116) -/

theorem results_cmp (count n h : Nat) (read : LogicalAddress → Word) (rel : Relation) (mag : Bool)
    (x y z : Descriptor) :
    (Operation.cmp rel mag x y z).results count n (.hits h) read =
      hitResult z count n h
        (rel.holds (if mag then |(read (x.address n)).toInt| else (read (x.address n)).toInt)
          (if mag then |(read (y.address n)).toInt| else (read (y.address n)).toInt)) := by
  rw [← compared_eq, ← compared_eq]
  rfl

theorem results_cmps (count n h : Nat) (read : LogicalAddress → Word) (rel : Relation) (mag : Bool) (w : Word)
    (x z : Descriptor) :
    (Operation.cmps rel mag w x z).results count n (.hits h) read =
      hitResult z count n h
        (rel.holds (if mag then |(read (x.address n)).toInt| else (read (x.address n)).toInt)
          (if mag then |w.toInt| else w.toInt)) := by
  rw [← compared_eq, ← compared_eq]
  rfl

/-! ### PEAK (R118) -/

theorem OpPart.peakAfter_none (v : Word) (n : Nat) : (OpPart.peak none).peakAfter v n = (v, n) := rfl

/-- The record gives way to an element of strictly greater magnitude only. -/
theorem OpPart.peakAfter_some (w v : Word) (i n : Nat) :
    (OpPart.peak (some (w, i))).peakAfter v n = if |w.toInt| < |v.toInt| then (v, n) else (w, i) := by
  rw [Int.abs_eq_natAbs, Int.abs_eq_natAbs]
  simp only [Nat.cast_lt]
  rfl

theorem results_peak (count n : Nat) (part : OpPart) (read : LogicalAddress → Word) (x z : Descriptor) :
    (Operation.peak x z).results count n part read =
      ⟨if n + 1 = count then
          [(z.address 0, (part.peakAfter (read (x.address n)) n).1),
            (z.address 1, BitVec.ofNat 32 (part.peakAfter (read (x.address n)) n).2)]
        else [], [], .peak (some (part.peakAfter (read (x.address n)) n))⟩ := rfl

/-! ### REVERSE (R120) -/

/-- An index below its bit reversal is exchanged with it. -/
theorem reverse_exchanges {count n : Nat} (h : n < bitReverse (indexBits count) n) (part : OpPart)
    (read : LogicalAddress → Word) (x : Descriptor) :
    let r := bitReverse (indexBits count) n
    (Operation.reverse x).reads count n = [x.address n, x.address r] ∧
      (Operation.reverse x).results count n part read =
        ⟨[(x.address n, read (x.address r)), (x.address r, read (x.address n))], [], part⟩ := by
  simp only [Operation.reads, Operation.results, if_pos h, and_self]

/-- Any other index has nothing to exchange, and its step reads no word. -/
theorem reverse_rests {count n : Nat} (h : bitReverse (indexBits count) n ≤ n) (part : OpPart)
    (read : LogicalAddress → Word) (x : Descriptor) :
    (Operation.reverse x).reads count n = [] ∧ (Operation.reverse x).results count n part read = ⟨[], [], part⟩ := by
  simp only [Operation.reads, Operation.results, if_neg h.not_gt, and_self]

/-- Settles O43: the operations that write one word at each index stand as defined; DOT, the compares, PEAK and REVERSE
go by their cases. -/
theorem arrayOperationsWriteTheirResults : Obligations.ArrayOperationsWriteTheirResults := by
  refine ⟨Relation.holds_iff, ?_⟩
  intro count n part read x y z w sh taps rel mag at' asWord filtered results reads size
  refine ⟨⟨rfl, rfl⟩, ⟨rfl, rfl⟩, ⟨rfl, rfl⟩, ⟨rfl, rfl⟩, ⟨rfl, rfl⟩, ⟨rfl, rfl⟩, ?dot, ⟨rfl, rfl⟩,
    fun _ => ⟨rfl, rfl⟩, ?compare, ?peak, fun h => reverse_exchanges h part read x,
    fun h => reverse_rests h part read x⟩
  case dot =>
    rintro acc rfl
    exact ⟨rfl, dotResult_accumulator .., fun h => dotResult_below_last h .., fun h => dotResult_last h ..⟩
  case compare =>
    rintro h hit rfl
    refine ⟨fun hhit => ⟨rfl, ?_⟩, fun hhit => ⟨rfl, ?_⟩⟩
    · refine (results_cmp count n h read rel mag x y z).trans ?_
      rw [hhit]
      rfl
    · refine (results_cmps count n h read rel mag w x z).trans ?_
      rw [hhit]
      rfl
  case peak =>
    rintro best rfl
    refine ⟨rfl, (results_peak count n _ read x z).trans ?_⟩
    cases best with
    | none => rfl
    | some record => rw [OpPart.peakAfter_some]

end Sys2Proof.Machine
end

section
/-! PROOFS. The element step that ends its context: the last step (R96) and the faulting step (R94, R95, R97, R102). -/

namespace Sys2Proof.Machine

/-! ### The end of a context's run (R71, R75, R179, R180) -/

/-- The context in slot c has ended with the record k: it has left its collection, the successor runs, and its notices
are posted; the service pass is still to come. -/
def State.endedAs (s : State) (c : ContextId) (k : Context) (o : Ending) : State :=
  (({ s with contexts := update s.contexts c (some k) } : State).withdraw fun d => d = c).postNotice c o

/-- Past the leaving of the context, only the events are written. -/
theorem State.endedAs_frame (s : State) (c : ContextId) (k : Context) (o : Ending) :
    s.endedAs c k o =
      { (({ s with contexts := update s.contexts c (some k) } : State).withdraw fun d => d = c) with
        events := (s.endedAs c k o).events } := rfl

/-- The record of an ended context stands: the successor is another context. -/
theorem State.endedAs_ctx (s : State) (c : ContextId) (k : Context) (o : Ending) : (s.endedAs c k o).ctx c = some k :=
  (State.withdraw_ctx_leaver (decide_eq_true rfl)).trans (update_get_self ..)

/-- The notice stands at the owner and at the starter's port or line's report port, and nowhere else. -/
theorem State.endedAs_eventsAt (s : State) (c : ContextId) (k : Context) (o : Ending) (q : PortId) :
    (s.endedAs c k o).eventsAt q =
      if q = k.owner ∨ k.startedBy = some (.port q) ∨
          ∃ l, k.startedBy = some (.line l) ∧ (s.line l).config.report = q then
        (s.eventsAt q).post c o
      else s.eventsAt q := by
  have left : (({ s with contexts := update s.contexts c (some k) } : State).withdraw fun d => d = c).ctx c = some k :=
    s.endedAs_ctx c k o
  rw [State.endedAs, State.postNotice_eventsAt]
  simp only [State.noticePorts_iff left, State.withdraw_line, State.withdraw_eventsAt]
  rfl

theorem State.completeContext_of_some {s : State} {c : ContextId} {k : Context} (hk : s.ctx c = some k) :
    s.completeContext c = (s.endedAs c (k.ended .done none) .done).servicePass := by
  rw [State.completeContext, State.modCtx_of_some hk]
  rfl

theorem State.faultContext_of_some {s : State} {c : ContextId} {k : Context} (hk : s.ctx c = some k)
    (cause : FaultCause) :
    s.faultContext c cause = (s.endedAs c (k.ended .faulted (some cause)) .faulted).servicePass := by
  rw [State.faultContext, State.modCtx_of_some hk]
  rfl

/-! ### The last step (R96) -/

/-- The step for index N−1 writes its results and its record, and the context is DONE. -/
theorem State.finishStep_last {s : State} {c : ContextId} {k : Context} (hk : s.ctx c = some k) {r : StepResult}
    (hlast : k.continuation.next + 1 = k.block.count) :
    s.finishStep c k r =
      ((s.writeResults k.owner r.writes).endedAs c ((k.advanced r).ended .done none) .done).servicePass := by
  have advanced : (s.writeResults k.owner r.writes).modCtx c (fun x => x.advanced r) =
      { s.writeResults k.owner r.writes with contexts := update s.contexts c (some (k.advanced r)) } :=
    State.modCtx_of_some (s := s.writeResults k.owner r.writes) hk _
  rw [State.finishStep, if_pos hlast, advanced, State.completeContext_of_some (update_get_self ..)]
  simp only [State.endedAs, update_update]
  rfl

/-- Settles O40: the last step passes its stages, and its context ends DONE. -/
theorem lastElementStepCompletesTheContext : Obligations.LastElementStepCompletesTheContext := by
  intro s c k rest hphase hchain hk hon hclean n result hsats hlast
  have hrun : exec (.elementStep none) s = .next (s.elementStep none) :=
    whenOperating_of_operating hphase fun s => s.elementStep none
  have completed : (k.advanced result).ended .done none =
      { k with
        state := .done, nested := false, continuation := ⟨k.block.count, result.part⟩, cause := none
        seen := ⟨k.seen.high || result.sats.contains .high, k.seen.low || result.sats.contains .low⟩ } := by
    rw [← hlast]
    rfl
  refine ⟨(s.writeResults k.owner result.writes).endedAs c ((k.advanced result).ended .done none) .done, ?_, ?_,
    fun q => ?_⟩
  · rw [hrun, State.elementStep_of_running hchain hk, State.stepContext_passes hon hclean hsats,
      State.finishStep_last hk hlast]
    rfl
  · rw [← completed]
    exact State.endedAs_frame ..
  · exact State.endedAs_eventsAt ..

/-! ### The stages at which a step faults (R93, R94, R95, R102) -/

theorem State.storeCheckPasses_iff {s : State} {k : Context} :
    s.storeCheckPasses k = true ↔
      s.offline = false ∧ ∀ g ∈ s.span k.owner k.block, s.carriesFault g = false := by
  simp [State.storeCheckPasses]

/-- Stage 1: a fault of the store ends the step before any read (R94). -/
theorem State.stepContext_storeFault {s : State} {c : ContextId} {k : Context}
    (h : s.storeCheckPasses k = false) (f : Option Nat) : s.stepContext c k f = s.faultContext c .store := by
  rw [State.stepContext, h]
  rfl

/-- Stage 2: the page of the failing read gains WORD, and the step ends (R95). -/
theorem State.stepContext_readFails {s : State} {c : ContextId} {k : Context} (h : s.storeCheckPasses k = true)
    {f : Option Nat} {a : LogicalAddress}
    (hfails : failingAddress (k.block.operation.reads k.block.count k.continuation.next) f = some a) :
    s.stepContext c k f = (s.wordCheckFailure (s.entryFor k.owner a).page).faultContext c .store := by
  rw [State.stepContext, h, hfails]
  rfl

/-- Stage 4: the first saturation of a masked kind is the cause (R102). -/
theorem State.stepContext_saturates {s : State} {c : ContextId} {k : Context} (h : s.storeCheckPasses k = true)
    {f : Option Nat} {x : SatKind}
    (hreads : failingAddress (k.block.operation.reads k.block.count k.continuation.next) f = none)
    (hmasked : firstMasked k.block.mask (s.stepResult k).sats = some x) :
    s.stepContext c k f = s.faultContext c (causeOf x) := by
  rw [State.stepContext, h, hreads]
  dsimp only
  rw [hmasked]
  rfl

/-- No position names a failing read where it is absent or past the last read (log 21). -/
theorem failingAddress_eq_none {reads : List LogicalAddress} {f : Option Nat}
    (h : f = none ∨ ∃ j, f = some j ∧ reads.length ≤ j) : failingAddress reads f = none := by
  rcases h with rfl | ⟨j, rfl, hlength⟩
  · rfl
  · exact List.getElem?_eq_none hlength

theorem firstMasked_of_split {m : SatSet} {before after : List SatKind} {x : SatKind} (hx : satIn m x = true)
    (hbefore : ∀ y ∈ before, satIn m y = false) : firstMasked m (before ++ x :: after) = some x := by
  have unmasked : before.find? (satIn m) = none := firstMasked_eq_none hbefore
  rw [firstMasked, List.find?_append, unmasked, List.find?_cons_of_pos hx]
  rfl

theorem causeOf_eq (x : SatKind) : causeOf x = if x = .high then .satHigh else .satLow := by
  cases x <;> rfl

/-- Settles O41: the stages in their order, then what every fault of a context leaves and writes. -/
theorem faultingElementStepWritesNothing : Obligations.FaultingElementStepWritesNothing := by
  intro s c k rest hphase hchain hk n result reads storeGood
  have hrun (f : Option Nat) : exec (.elementStep f) s = .next (s.stepContext c k f) := by
    rw [← State.elementStep_of_running hchain hk]
    exact whenOperating_of_operating hphase fun s => s.elementStep f
  refine ⟨fun f hbad => ?_, fun hgood i a ha => ?_, fun hgood f x hnone hsplit => ?_, fun t cause ht => ?_⟩
  · have fails : s.storeCheckPasses k = false := Bool.eq_false_iff.mpr (mt State.storeCheckPasses_iff.mp hbad)
    rw [hrun, State.stepContext_storeFault fails]
  · rw [hrun, State.stepContext_readFails (State.storeCheckPasses_iff.mpr hgood) (f := some i) ha]
  · obtain ⟨before, after, hsats, hx, hbefore⟩ := hsplit
    have masked : firstMasked k.block.mask (s.stepResult k).sats = some x :=
      (congrArg (firstMasked k.block.mask) hsats).trans (firstMasked_of_split hx hbefore)
    rw [hrun, State.stepContext_saturates (State.storeCheckPasses_iff.mpr hgood) (failingAddress_eq_none hnone) masked,
      causeOf_eq]
  · exact ⟨State.faultContext_words .., State.faultContext_faults .., _, State.faultContext_of_some ht cause,
      State.endedAs_ctx .., State.endedAs_frame .., fun q => State.endedAs_eventsAt ..⟩

end Sys2Proof.Machine
end

section
/-! PROOFS. What each operation on one line or one port makes of it: lines stay ones that R122 to R129 admit, ports ones
that R159 to R168 admit. -/

namespace Sys2Proof.Machine

/-! ### One line -/

/-- A line that is not DISABLED is enabled (R123). -/
theorem LineFits.enabled {n : Line} (h : LineFits n) (hstate : n.state ≠ .disabled) : n.config.enable = true := by
  obtain ⟨disabled, -⟩ := h
  simpa using mt disabled.mp hstate

theorem LineFits.debounce_stopped {n : Line} (h : LineFits n) (hstate : n.state ≠ .debouncing) :
    n.debounceTimer = none := by
  obtain ⟨-, debounce, -⟩ := h
  exact Option.not_isSome_iff_eq_none.mp (mt debounce.mp hstate)

theorem LineFits.validation_stopped {n : Line} (h : LineFits n) (hstate : n.state ≠ .validating) :
    n.validationTimer = none := by
  obtain ⟨-, -, validation, -⟩ := h
  exact Option.not_isSome_iff_eq_none.mp (mt validation.mp hstate)

/-- The states of an enabled line in which no timer runs: LISTENING, PENDING and REFUSED. -/
def LineState.isStill : LineState → Bool
  | .listening | .pending | .refused => true
  | .disabled | .debouncing | .validating => false

theorem LineFits.still {n : Line} (henable : n.config.enable = true) (hstate : n.state.isStill = true)
    (hdebounce : n.debounceTimer = none) (hvalidation : n.validationTimer = none) : LineFits n := by
  unfold LineFits
  cases hs : n.state <;> simp_all [LineState.isStill]

/-- An enabled line enters LISTENING, PENDING or REFUSED with its timers stopped (R125 to R127). -/
theorem LineFits.stopped {n : Line} (h : LineFits n) (hstate : n.state ≠ .disabled) {st : LineState}
    (hst : st.isStill = true) : LineFits { n with state := st, debounceTimer := none, validationTimer := none } :=
  .still (h.enabled hstate) hst rfl rfl

theorem LineFits.toListening {n : Line} (h : LineFits n) (hstate : n.state ≠ .disabled) : LineFits n.toListening :=
  h.stopped hstate rfl

/-- A line moves between the states in which no timer runs (R129, R134). -/
theorem LineFits.moved {n : Line} (h : LineFits n) (hfrom : n.state.isStill = true) {st : LineState}
    (hst : st.isStill = true) : LineFits { n with state := st } := by
  have apart {x : LineState} (hx : x.isStill = false) : n.state ≠ x := fun heq => by simp [heq, hx] at hfrom
  exact .still (h.enabled (apart rfl)) hst (h.debounce_stopped (apart rfl)) (h.validation_stopped (apart rfl))

/-- Only a line of source PIN starts debouncing, from LISTENING (R125). -/
theorem LineFits.startDebounce {n : Line} (h : LineFits n) (hsource : n.config.source = .pin)
    (hstate : n.state = .listening) : LineFits n.startDebounce := by
  have henable := h.enabled (by simp [hstate])
  have hvalidation := h.validation_stopped (by simp [hstate])
  simp [LineFits, Line.startDebounce, henable, hvalidation, hsource]

/-- Only an enabled line of source PIN starts validating (R125, R126). -/
theorem LineFits.startValidation {n : Line} (h : LineFits n) (hsource : n.config.source = .pin)
    (hstate : n.state ≠ .disabled) : LineFits n.startValidation := by
  have henable := h.enabled hstate
  simp [LineFits, Line.startValidation, henable, hsource]

/-- A line that debounces is of source PIN (R129). -/
theorem LineFits.source_of_debouncing {n : Line} (h : LineFits n) (hstate : n.state = .debouncing) :
    n.config.source = .pin := by
  obtain ⟨-, -, -, timer⟩ := h
  cases hsource : n.config.source with
  | pin => rfl
  | timer =>
    obtain ⟨notDebouncing, -⟩ := timer hsource
    exact absurd hstate notDebouncing

theorem Line.configured_fits (cfg : LineConfig) : LineFits (Line.configured cfg) := by
  cases henable : cfg.enable <;> simp [LineFits, Line.configured, henable]

theorem LineFits.releasedFrom {n : Line} (h : LineFits n) (q : PortId) : LineFits (n.releasedFrom q) := by
  unfold Line.releasedFrom
  split
  · rename_i hrefused
    obtain ⟨hstate, -⟩ := hrefused
    exact h.toListening (by simp [hstate])
  · exact h

/-! ### One port -/

/-- What a port holds between its frames fits in every field. -/
theorem PortFits.idle {pt : Port} (hreceive : pt.receive = .waitLength) (htimer : pt.receiveTimer = none)
    (houtgoing : pt.outgoing = none) (hkept : pt.kept = none) : PortFits pt := by
  simp [PortFits, hreceive, htimer, houtgoing, hkept]

theorem PortFits.respond {pt : Port} (h : PortFits pt) (r : Response) : PortFits (pt.respond r) := by
  obtain ⟨assembly, discarding, timer, outgoing, kept, -⟩ := h
  refine ⟨assembly, discarding, timer, fun hout => outgoing ?_, kept, fun o ho hpending => ?_⟩
  · simpa [Port.respond] using hout
  · obtain ⟨old, -, rfl⟩ := Option.map_eq_some_iff.mp ho
    cases hpending

theorem PortFits.withRun {pt : Port} (h : PortFits pt) (run : DataRun) : PortFits { pt with run := some run } := by
  obtain ⟨assembly, discarding, timer, outgoing, -, pending⟩ := h
  exact ⟨assembly, discarding, timer, outgoing, fun _ => rfl, pending⟩

/-- A frame is kept during a data run alone (R14). -/
theorem PortFits.keep {pt : Port} (h : PortFits pt) (hrun : pt.run.isSome = true) (frame : List Byte) :
    PortFits (pt.keep frame) := by
  unfold Port.keep
  split
  · obtain ⟨assembly, discarding, timer, outgoing, -, pending⟩ := h
    exact ⟨assembly, discarding, timer, outgoing, fun _ => hrun, pending⟩
  · exact h

/-- A run ends, and no frame is kept any more (R14). -/
theorem PortFits.released {pt : Port} (h : PortFits pt) : PortFits { pt with run := none, kept := none } := by
  obtain ⟨assembly, discarding, timer, outgoing, -, pending⟩ := h
  exact ⟨assembly, discarding, timer, outgoing, nofun, pending⟩

/-- A frame in assembly is dropped, and its timer stops with it (R164). -/
theorem PortFits.waiting {pt : Port} (h : PortFits pt) :
    PortFits { pt with receive := .waitLength, receiveTimer := none } := by
  obtain ⟨-, -, -, outgoing, kept, pending⟩ := h
  exact ⟨nofun, nofun, nofun, outgoing, kept, pending⟩

theorem PortFits.discarding {pt : Port} (h : PortFits pt) (hselected : pt.selected = true) :
    PortFits { pt with receive := .discarding, receiveTimer := none } := by
  obtain ⟨-, -, -, outgoing, kept, pending⟩ := h
  exact ⟨nofun, fun _ => hselected, nofun, outgoing, kept, pending⟩

/-- A frame of length `L` stands in assembly, with the receive timer running or not (R164). -/
theorem PortFits.receiving {pt : Port} (h : PortFits pt) (hselected : pt.selected = true) {L : Nat}
    {bytes : List Byte} (hlow : 3 ≤ L) (hhigh : L ≤ 255) (hshort : bytes.length < L)
    (hfirst : bytes.head? = some (byteOfNat L)) (timer : Option Nat) : PortFits { pt with receive := .receiving L bytes, receiveTimer := timer } := by
  obtain ⟨-, -, -, outgoing, kept, pending⟩ := h
  refine ⟨fun L' bytes' hreceive => ?_, nofun, fun _ => ⟨L, bytes, rfl⟩, outgoing, kept, pending⟩
  cases hreceive
  exact ⟨hselected, hlow, hhigh, hshort, hfirst⟩

/-- Outside RECEIVING the receive timer does not run (R163). -/
theorem PortFits.timer_stopped {pt : Port} (h : PortFits pt) (hreceive : ∀ L bytes, pt.receive ≠ .receiving L bytes) :
    pt.receiveTimer = none := by
  obtain ⟨-, -, timer, -⟩ := h
  refine Option.not_isSome_iff_eq_none.mp fun hruns => ?_
  obtain ⟨L, bytes, hreceiving⟩ := timer hruns
  exact hreceive L bytes hreceiving

/-- A frame is in assembly in a select period alone (R164). -/
theorem PortFits.selected_of_receiving {pt : Port} (h : PortFits pt) {L : Nat} {bytes : List Byte}
    (hreceive : pt.receive = .receiving L bytes) : pt.selected = true := by
  obtain ⟨assembly, -⟩ := h
  obtain ⟨selected, -⟩ := assembly L bytes hreceive
  exact selected

theorem PortFits.onSelect {pt : Port} (h : PortFits pt) : PortFits pt.onSelect := by
  unfold Port.onSelect
  split
  · exact h
  · obtain ⟨assembly, -, timer, -, kept, -⟩ := h
    refine ⟨fun L bytes hreceive => ⟨rfl, ?_⟩, fun _ => rfl, timer, fun _ => rfl, kept, fun o ho _ => ?_⟩
    · obtain ⟨-, frame⟩ := assembly L bytes hreceive
      exact frame
    · obtain ⟨r, hr, rfl⟩ := Option.map_eq_some_iff.mp ho
      refine ⟨hr, ?_⟩
      rw [Response.frame, Laws.length_closeFrame]
      exact Nat.succ_pos _

theorem PortFits.onDeselect {pt : Port} (h : PortFits pt) : PortFits pt.onDeselect := by
  unfold Port.onDeselect
  split
  · obtain ⟨-, -, -, -, kept, -⟩ := h
    exact ⟨nofun, nofun, nofun, nofun, kept, nofun⟩
  · exact h

@[simp] theorem Port.shiftOut_selected (pt : Port) : pt.shiftOut.selected = pt.selected := by
  unfold Port.shiftOut
  split
  · rfl
  · split <;> rfl

/-- The byte that shifts out the last byte leaves no response pending; any other leaves one byte at least (R168). -/
theorem PortFits.shiftOut {pt : Port} (h : PortFits pt) : PortFits pt.shiftOut := by
  obtain ⟨assembly, discarding, timer, outgoing, kept, pending⟩ := h
  unfold Port.shiftOut
  split
  · exact ⟨assembly, discarding, timer, outgoing, kept, pending⟩
  · rename_i o ho
    have selected : pt.selected = true := outgoing (by rw [ho]; rfl)
    split
    · refine ⟨assembly, discarding, timer, fun _ => selected, kept, fun o' ho' hpending => ?_⟩
      cases ho'
      cases hpending
    · rename_i hmore
      refine ⟨assembly, discarding, timer, fun _ => selected, kept, fun o' ho' hpending => ?_⟩
      cases ho'
      obtain ⟨response, sent⟩ := pending o ho hpending
      have notLast : o.sent + 1 ≠ o.response.frame.length := fun hlast => hmore ⟨hlast, hpending⟩
      exact ⟨response, show o.sent + 1 < o.response.frame.length by omega⟩

theorem PortFits.frameDone {pt : Port} (h : PortFits pt) : PortFits pt.frameDone := h.waiting

theorem PortFits.onTimeout {pt : Port} (h : PortFits pt) : PortFits pt.onTimeout := by
  unfold Port.onTimeout
  split
  · rename_i hreceive _
    exact h.discarding (h.selected_of_receiving hreceive)
  all_goals exact h

theorem PortFits.loseAll (pt : Port) : PortFits pt.loseAll := .idle rfl rfl rfl rfl

theorem PortFits.resetBySelf {pt : Port} (h : PortFits pt) : PortFits pt.resetBySelf := h.waiting.released

theorem PortFits.resetByOther (pt : Port) : PortFits pt.resetByOther := by
  refine ⟨fun L bytes hreceive => ?_, fun hdiscarding => ?_, nofun, nofun, nofun, nofun⟩
  · simp only [Port.resetByOther] at hreceive
    split at hreceive <;> cases hreceive
  · by_contra hselected
    have waiting : pt.resetByOther.receive = .waitLength := if_neg hselected
    rw [waiting] at hdiscarding
    cases hdiscarding

theorem PortFits.initial (level : Level) (selected : Bool) (dataOut : Byte) :
    PortFits (Port.initial level selected dataOut) := .idle rfl rfl rfl rfl

end Sys2Proof.Machine
end

section
/-! PROOFS. Lines and ports stay fitting through the operations that more than one command or event makes: answers, the
service pass, the end of a context's run, and the operations of the store check. -/

namespace Sys2Proof.Machine

/-! ### States that share lines and ports -/

/-- `t` has the lines and the ports of `s`. -/
structure SameWires (s t : State) : Prop where
  lines : t.lines = s.lines
  ports : t.ports = s.ports

theorem SameWires.line {s t : State} (h : SameWires s t) (l : LineId) : t.line l = s.line l := by
  simp [State.line, h.lines]

theorem SameWires.port {s t : State} (h : SameWires s t) (p : PortId) : t.port p = s.port p := by
  simp [State.port, h.ports]

theorem SameWires.withdraw (s : State) (w : ContextId → Bool) : SameWires s (s.withdraw w) :=
  ⟨s.withdraw_lines w, s.withdraw_ports w⟩

theorem SameWires.accept (s : State) (c : ContextId) (kind : GateKind) (who : Starter) :
    SameWires s (s.accept c kind who) := ⟨s.accept_lines c kind who, s.accept_ports c kind who⟩

theorem SameWires.wordCheckFailure (s : State) (g : PhysicalPage) : SameWires s (s.wordCheckFailure g) :=
  ⟨s.wordCheckFailure_lines g, s.wordCheckFailure_ports g⟩

theorem SameWires.raiseAt (s : State) (which : PortId → Bool) (f : FlagSet) : SameWires s (s.raiseAt which f) :=
  ⟨rfl, rfl⟩

theorem SameWires.closeCheck (s : State) : SameWires s s.closeCheck := by
  unfold State.closeCheck
  exact ⟨rfl, rfl⟩

theorem SameWires.zeroUnderTest (s : State) : SameWires s s.zeroUnderTest := by
  unfold State.zeroUnderTest
  split <;> exact ⟨rfl, rfl⟩

theorem SameWires.judgePage (s : State) (g : PhysicalPage) (o : TestOutcome) : SameWires s (s.judgePage g o) := by
  cases o <;> exact ⟨rfl, rfl⟩

theorem SameWires.judgePair (s : State) (a b : PhysicalPage) (o : TestOutcome) : SameWires s (s.judgePair a b o) := by
  cases o <;> exact ⟨rfl, rfl⟩

/-! ### The invariant -/

/-- Every line and every port fits. -/
structure WiresFit (s : State) : Prop where
  lines : LinesFit s
  ports : PortsFit s

theorem WiresFit.of_same {s t : State} (h : WiresFit s) (hst : SameWires s t) : WiresFit t :=
  ⟨fun l => by rw [hst.line]; exact h.lines l, fun p => by rw [hst.port]; exact h.ports p⟩

theorem WiresFit.modPort {s : State} (h : WiresFit s) {p : PortId} {f : Port → Port} (hf : PortFits (f (s.port p))) :
    WiresFit (s.modPort p f) := by
  refine ⟨h.lines, fun q => ?_⟩
  rw [State.modPort_port]
  split
  · exact hf
  · exact h.ports q

theorem WiresFit.modLine {s : State} (h : WiresFit s) {l : LineId} {f : Line → Line} (hf : LineFits (f (s.line l))) :
    WiresFit (s.modLine l f) := by
  refine ⟨fun m => ?_, h.ports⟩
  rw [State.modLine_line]
  split
  · exact hf
  · exact h.lines m

theorem WiresFit.answer {s : State} (h : WiresFit s) (p : PortId) (code : Byte) (st : Status) (rs : List Byte) :
    WiresFit (s.answer p code st rs) := h.modPort ((h.ports p).respond _)

theorem WiresFit.refuse {s : State} (h : WiresFit s) (p : PortId) (code : Byte) (st : Status) :
    WiresFit (s.refuse p code st) := h.answer ..

/-! ### The service pass -/

theorem State.pendingLines_nodup (s : State) : s.pendingLines.Nodup := by
  refine s.pendingLines_ordered.imp fun hbefore heq => ?_
  subst heq
  rcases hbefore with hless | ⟨-, hless⟩
  · exact lt_irrefl _ hless
  · exact lt_irrefl _ hless

/-- The service of one line writes no other line. -/
theorem State.serveLine_line_other (s : State) {l m : LineId} (h : m ≠ l) : (s.serveLine l).line m = s.line m := by
  unfold State.serveLine
  split
  · rw [State.modLine_line, if_neg h, State.accept_line]
  · split
    · rw [State.modLine_line, if_neg h]
    · rw [State.raiseAt_line, State.modLine_line, if_neg h]

/-- A PENDING line that is served enters LISTENING, stays PENDING or enters REFUSED (R132 to R134). -/
theorem WiresFit.serveLine {s : State} (h : WiresFit s) {l : LineId} (hpending : (s.line l).state = .pending) :
    WiresFit (s.serveLine l) := by
  have enabled : (s.line l).state ≠ .disabled := by simp [hpending]
  unfold State.serveLine
  split
  · refine (h.of_same (.accept ..)).modLine ?_
    rw [State.accept_line]
    exact (h.lines l).toListening enabled
  · split
    · exact h.modLine (h.lines l)
    · rename_i code _ _
      have refused := (h.lines l).moved (by simp [hpending, LineState.isStill]) (st := .refused) rfl
      have written : WiresFit (s.modLine l fun n => { n with state := .refused, lastRefusal := some code }) :=
        h.modLine refused
      exact written.of_same (.raiseAt ..)

/-- Lines that are all PENDING and served once each: the service of one leaves the others PENDING. -/
theorem WiresFit.serveLines {s : State} (h : WiresFit s) {ls : List LineId} (hnodup : ls.Nodup)
    (hpending : ∀ l ∈ ls, (s.line l).state = .pending) : WiresFit (ls.foldl State.serveLine s) := by
  induction ls generalizing s with
  | nil => exact h
  | cons l rest ih =>
    obtain ⟨hl, hrest⟩ := List.nodup_cons.mp hnodup
    obtain ⟨first, others⟩ := List.forall_mem_cons.mp hpending
    refine ih (h.serveLine first) hrest fun m hm => ?_
    have other : m ≠ l := by
      rintro rfl
      exact hl hm
    rw [State.serveLine_line_other s other]
    exact others m hm

theorem WiresFit.servicePass {s : State} (h : WiresFit s) : WiresFit s.servicePass :=
  h.serveLines s.pendingLines_nodup fun l hl => (s.mem_pendingLines_iff l).mp hl

theorem WiresFit.serviceIf {s : State} (h : WiresFit s) (opportunity : Bool) : WiresFit (s.serviceIf opportunity) := by
  unfold State.serviceIf
  split
  · exact h.servicePass
  · exact h

/-! ### The end of a context's run, and the element step -/

theorem SameWires.ended (s : State) (c : ContextId) (f : Context → Context) (o : Ending) :
    SameWires s (((s.modCtx c f).withdraw (· = c)).postNotice c o) := by
  constructor <;> simp

theorem WiresFit.completeContext {s : State} (h : WiresFit s) (c : ContextId) : WiresFit (s.completeContext c) :=
  (h.of_same (.ended ..)).servicePass

theorem WiresFit.faultContext {s : State} (h : WiresFit s) (c : ContextId) (cause : FaultCause) :
    WiresFit (s.faultContext c cause) :=
  (h.of_same (.ended ..)).servicePass

theorem WiresFit.stepContext {s : State} (h : WiresFit s) (c : ContextId) (k : Context) (failingRead : Option Nat) :
    WiresFit (s.stepContext c k failingRead) := by
  unfold State.stepContext
  split
  · exact h.faultContext ..
  · split
    · exact (h.of_same (.wordCheckFailure ..)).faultContext ..
    · split
      · exact h.faultContext ..
      · have written (ws : List (LogicalAddress × Word)) (f : Context → Context) :
            WiresFit ((s.writeResults k.owner ws).modCtx c f) := h.of_same ⟨rfl, rfl⟩
        unfold State.finishStep
        dsimp only
        split
        · exact (written ..).completeContext c
        · exact written ..

theorem WiresFit.elementStep {s : State} (h : WiresFit s) (failingRead : Option Nat) :
    WiresFit (s.elementStep failingRead) := by
  unfold State.elementStep
  split
  · exact h
  · split
    · exact h
    · exact h.stepContext ..

/-! ### The store check: lines and ports stand until the service pass at its end (R154) -/

theorem WiresFit.endCheck {s : State} (h : WiresFit s) : WiresFit s.endCheck := by
  have closed : WiresFit s.closeCheck := h.of_same (.closeCheck s)
  exact ((closed.of_same (.raiseAt ..)).of_same (.raiseAt ..)).servicePass

theorem WiresFit.modCheck {s : State} (h : WiresFit s) (f : CheckRecord → CheckRecord) : WiresFit (s.modCheck f) :=
  h.of_same ⟨rfl, rfl⟩

theorem WiresFit.takePair {s : State} (h : WiresFit s) (next : Option (PhysicalPage × PhysicalPage)) :
    WiresFit (s.takePair next) := by
  unfold State.takePair
  split
  · exact h.modCheck _
  · exact h.endCheck

theorem WiresFit.afterPattern {s : State} (h : WiresFit s) : WiresFit s.afterPattern := by
  unfold State.afterPattern
  split
  · exact h.takePair _
  · exact h.endCheck

theorem WiresFit.nextPageTest {s : State} (h : WiresFit s) : WiresFit s.nextPageTest := by
  unfold State.nextPageTest
  split
  · exact h.modCheck _
  · exact h.afterPattern

theorem WiresFit.afterReference {s : State} (h : WiresFit s) : WiresFit s.afterReference := by
  unfold State.afterReference
  split
  · exact h.nextPageTest
  · exact h.afterPattern

theorem WiresFit.completeReference {s : State} (h : WiresFit s) (o : TestOutcome) :
    WiresFit (s.completeReference o) := by
  unfold State.completeReference
  split
  · exact (h.modCheck _).afterReference
  · unfold State.referenceFailed
    refine WiresFit.endCheck (WiresFit.of_same ?_ (.raiseAt ..))
    exact h.of_same ⟨rfl, rfl⟩
  · exact h

theorem WiresFit.completePage {s : State} (h : WiresFit s) (o : TestOutcome) : WiresFit (s.completePage o) := by
  unfold State.completePage
  split
  · exact (h.of_same (.judgePage ..)).nextPageTest
  · exact h

theorem WiresFit.completePair {s : State} (h : WiresFit s) (o : TestOutcome) : WiresFit (s.completePair o) := by
  unfold State.completePair
  split
  · exact (h.of_same (.judgePair ..)).takePair _
  · exact h

end Sys2Proof.Machine
end

section
/-! PROOFS. Every command keeps every line and every port fitting. -/

namespace Sys2Proof.Machine

/-! ### Resets -/

theorem WiresFit.freeSlots {s : State} (h : WiresFit s) (w : ContextId → Bool) : WiresFit (s.freeSlots w) := by
  refine ⟨fun l => ?_, fun p => ?_⟩
  · rw [State.freeSlots_line]
    exact h.lines l
  · rw [State.freeSlots_port]
    exact h.ports p

theorem WiresFit.resetPort {s : State} (h : WiresFit s) (p q : PortId) : WiresFit (s.resetPort p q) := by
  refine ⟨fun l => ?_, fun x => ?_⟩
  · rw [State.resetPort_line]
    refine LineFits.releasedFrom ?_ q
    exact h.lines l
  · rw [State.resetPort_port]
    split
    · split
      · exact (h.ports q).resetBySelf
      · exact .resetByOther _
    · exact h.ports x

theorem State.restart_port (s : State) (p q : PortId) :
    (s.restart p).port q = if q = p then (s.port q).resetBySelf else (s.port q).resetByOther := ofFn_get ..

/-- With every line as after reset, only the ports are left to fit. -/
theorem WiresFit.of_initial_lines {s : State} (hlines : s.lines = Vector.replicate 8 Line.initial)
    (hports : PortsFit s) : WiresFit s := by
  refine ⟨fun l => ?_, hports⟩
  rw [State.line, hlines, replicate_get]
  exact Line.initial_fits

theorem WiresFit.restart {s : State} (h : WiresFit s) (p : PortId) : WiresFit (s.restart p) := by
  refine .of_initial_lines rfl fun q => ?_
  rw [State.restart_port]
  split
  · exact (h.ports q).resetBySelf
  · exact .resetByOther _

theorem WiresFit.start (s : State) (straps : Vector Level 4) (ph : Phase) : WiresFit (s.start straps ph) := by
  refine .of_initial_lines rfl fun p => ?_
  rw [State.start_port]
  exact .initial ..

theorem WiresFit.stop {s : State} (h : WiresFit s) (ph : Phase) : WiresFit (s.stop ph) := by
  refine ⟨h.lines, fun p => ?_⟩
  rw [State.stop_port]
  exact .loseAll _

/-! ### Port commands -/

theorem WiresFit.takeEcho {s : State} (h : WiresFit s) (p : PortId) (data : List Byte) :
    WiresFit (takeEcho p data s) := by
  unfold Machine.takeEcho
  split
  · exact h.refuse ..
  · exact h.answer ..

/-- The timeout is read when a receive timer starts, and no invariant concerns it (R171). -/
theorem WiresFit.takeSetPort {s : State} (h : WiresFit s) (p : PortId) (timeout : Byte) :
    WiresFit (takeSetPort p timeout s) := by
  have written : WiresFit (s.modPort p fun pt => { pt with timeout := timeout }) := h.modPort (h.ports p)
  exact written.answer ..

theorem WiresFit.takePortReset {s : State} (h : WiresFit s) (p : PortId) (target : Byte) :
    WiresFit (takePortReset p target s) := by
  unfold Machine.takePortReset
  split
  · exact h.refuse ..
  · exact ((h.resetPort ..).answer ..).serviceIf _

theorem WiresFit.takeDeviceRestart {s : State} (h : WiresFit s) (p : PortId) : WiresFit (takeDeviceRestart p s) := by
  unfold Machine.takeDeviceRestart
  split
  · exact h.refuse ..
  · exact (h.restart p).answer ..

/-! ### Store commands -/

theorem WiresFit.takeWriteMap {s : State} (h : WiresFit s) (p : PortId) (fs : List MapFields) :
    WiresFit (takeWriteMap p fs s) := by
  unfold Machine.takeWriteMap
  split
  · exact h.refuse ..
  · rename_i es _
    have written : SameWires s { s with maps := update s.maps p (writeEntries s.maps[p] es) } := ⟨rfl, rfl⟩
    exact (h.of_same written).answer ..

theorem WiresFit.takeReadMap {s : State} (h : WiresFit s) (p : PortId) (target : Byte) :
    WiresFit (takeReadMap p target s) := by
  unfold Machine.takeReadMap
  split
  · exact h.refuse ..
  · exact h.answer ..

theorem WiresFit.takeTranslate {s : State} (h : WiresFit s) (p : PortId) (page : Byte) :
    WiresFit (takeTranslate p page s) := by
  unfold Machine.takeTranslate
  split
  · exact h.refuse ..
  · exact h.answer ..

theorem WiresFit.takeReadWords {s : State} (h : WiresFit s) (p : PortId) (page offset count : Byte) :
    WiresFit (takeReadWords p page offset count s) := by
  unfold Machine.takeReadWords
  split
  · exact h.refuse ..
  · split
    · exact h.refuse ..
    · exact h.modPort ((h.ports p).withRun _)

theorem WiresFit.takeWriteWords {s : State} (h : WiresFit s) (p : PortId) (page offset count : Byte)
    (words : List Word) : WiresFit (takeWriteWords p page offset count words s) := by
  unfold Machine.takeWriteWords
  split
  · exact h.refuse ..
  · split
    · exact h.refuse ..
    · exact h.modPort ((h.ports p).withRun _)

theorem WiresFit.takeClearFaults {s : State} (h : WiresFit s) (p : PortId) (pages : PageSet) (kinds : FaultSet)
    (off : Bool) : WiresFit (takeClearFaults p pages kinds off s) := by
  have cleared : SameWires s (s.clearFaults pages kinds off) := by
    unfold State.clearFaults
    exact ⟨rfl, rfl⟩
  unfold Machine.takeClearFaults
  split
  · exact h.refuse ..
  · exact (h.of_same cleared).answer ..

/-! ### Context commands -/

theorem WiresFit.takeDefineContext {s : State} (h : WiresFit s) (p : PortId) (slot : Byte) (f : BlockFields) :
    WiresFit (takeDefineContext p slot f s) := by
  unfold Machine.takeDefineContext
  split
  · exact h.refuse ..
  · rename_i c b _
    have written : SameWires s (s.setCtx c (some (Context.defined p b))) := ⟨rfl, rfl⟩
    exact (h.of_same written).answer ..

theorem WiresFit.modCtx {s : State} (h : WiresFit s) (c : ContextId) (f : Context → Context) :
    WiresFit (s.modCtx c f) := h.of_same ⟨rfl, rfl⟩

theorem WiresFit.takeSetParams {s : State} (h : WiresFit s) (p : PortId) (slot : Byte) (f : BlockFields) :
    WiresFit (takeSetParams p slot f s) := by
  unfold Machine.takeSetParams
  split
  · exact h.refuse ..
  · exact (h.modCtx ..).answer ..

theorem WiresFit.takeReadContext {s : State} (h : WiresFit s) (p : PortId) (slot : Byte) :
    WiresFit (takeReadContext p slot s) := by
  unfold Machine.takeReadContext
  split
  · exact h.refuse ..
  · exact h.answer ..

theorem WiresFit.takeClearContext {s : State} (h : WiresFit s) (p : PortId) (slot : Byte) :
    WiresFit (takeClearContext p slot s) := by
  unfold Machine.takeClearContext
  split
  · exact h.refuse ..
  · exact (h.modCtx ..).servicePass.answer ..

theorem WiresFit.takeFreeContext {s : State} (h : WiresFit s) (p : PortId) (slot : Byte) :
    WiresFit (takeFreeContext p slot s) := by
  unfold Machine.takeFreeContext
  split
  · exact h.refuse ..
  · exact (h.freeSlots _).answer ..

/-! ### Gates and the run commands -/

theorem WiresFit.takeWriteGate {s : State} (h : WiresFit s) (p : PortId) (gate : Byte) (present : Bool)
    (f : GateFields) : WiresFit (takeWriteGate p gate present f s) := by
  unfold Machine.takeWriteGate
  split
  · exact h.refuse ..
  · rename_i g record _
    have written : SameWires s { s with gates := update s.gates g record } := ⟨rfl, rfl⟩
    exact (h.of_same written).servicePass.answer ..

theorem WiresFit.takeReadGate {s : State} (h : WiresFit s) (p : PortId) (first count : Byte) :
    WiresFit (takeReadGate p first count s) := by
  unfold Machine.takeReadGate
  split
  · exact h.refuse ..
  · exact h.answer ..

theorem WiresFit.takeInvoke {s : State} (h : WiresFit s) (p : PortId) (gate : Byte) :
    WiresFit (takeInvoke p gate s) := by
  unfold Machine.takeInvoke
  split
  · exact h.refuse ..
  · exact (h.of_same (.accept ..)).answer ..

theorem WiresFit.holdContext {s : State} (h : WiresFit s) (c : ContextId) : WiresFit (s.holdContext c) := by
  have left := (h.modCtx c fun k => { k with state := .held, nested := false }).of_same (.withdraw _ (· = c))
  unfold State.holdContext
  refine WiresFit.serviceIf (left.of_same ?_) _
  exact ⟨rfl, rfl⟩

theorem WiresFit.takeHold {s : State} (h : WiresFit s) (p : PortId) (slot : Byte) : WiresFit (takeHold p slot s) := by
  unfold Machine.takeHold
  split
  · exact h.refuse ..
  · split
    · exact (h.holdContext _).answer ..
    · split
      · exact (h.holdContext _).answer ..
      · exact h.refuse ..
    all_goals exact h.refuse ..

theorem WiresFit.resumeContext {s : State} (h : WiresFit s) (c : ContextId) : WiresFit (s.resumeContext c) := by
  unfold State.resumeContext
  dsimp only
  split <;> exact h.of_same ⟨rfl, rfl⟩

theorem WiresFit.takeResume {s : State} (h : WiresFit s) (p : PortId) (slot : Byte) :
    WiresFit (takeResume p slot s) := by
  unfold Machine.takeResume
  split
  · exact h.refuse ..
  · split
    · exact (h.resumeContext _).answer ..
    · exact h.refuse ..

theorem WiresFit.takeAbort {s : State} (h : WiresFit s) (p : PortId) (slot : Byte) :
    WiresFit (takeAbort p slot s) := by
  unfold Machine.takeAbort
  split
  · exact h.refuse ..
  · split
    · exact (h.faultContext ..).answer ..
    · exact h.refuse ..

/-! ### Line and timer commands -/

theorem WiresFit.takeConfigLine {s : State} (h : WiresFit s) (p : PortId) (line : Byte) (f : LineFields) :
    WiresFit (takeConfigLine p line f s) := by
  unfold Machine.takeConfigLine
  split
  · exact h.refuse ..
  · exact (h.modLine (Line.configured_fits _)).answer ..

/-- CLEAR_LINE passes its checks at a REFUSED line alone (R139). -/
theorem checkClearLine_ok {p : PortId} {line : Byte} {s : State} {l : LineId} (h : checkClearLine p line s = .ok l) :
    (s.line l).state = .refused := by
  unfold checkClearLine at h
  split at h
  · cases h
  · split_ifs at h with _ hstate
    cases h
    exact not_not.mp hstate

theorem WiresFit.takeClearLine {s : State} (h : WiresFit s) (p : PortId) (line : Byte) :
    WiresFit (takeClearLine p line s) := by
  unfold Machine.takeClearLine
  split
  · exact h.refuse ..
  · rename_i l hok
    have enabled : (s.line l).state ≠ .disabled := by simp [checkClearLine_ok hok]
    exact (h.modLine ((h.lines l).toListening enabled)).answer ..

theorem WiresFit.takeSetTimer {s : State} (h : WiresFit s) (p : PortId) (reload : BitVec 16) (run : Bool) :
    WiresFit (takeSetTimer p reload run s) := by
  unfold Machine.takeSetTimer
  split
  · exact h.refuse ..
  · have written : SameWires s { s with timer := s.timer.set reload run } := ⟨rfl, rfl⟩
    exact (h.of_same written).answer ..

/-! ### Check and event commands -/

theorem WiresFit.takeStartCheck {s : State} (h : WiresFit s) (p : PortId) (pages : PageSet) (q : StepRequest) :
    WiresFit (takeStartCheck p pages q s) := by
  have accepted : SameWires s (s.acceptCheck p pages q) := by
    unfold State.acceptCheck
    exact ⟨rfl, rfl⟩
  unfold Machine.takeStartCheck
  split
  · exact h.refuse ..
  · refine WiresFit.answer ?_ ..
    split
    · exact (h.of_same accepted).endCheck
    · exact h.of_same accepted

theorem WiresFit.takeAbortCheck {s : State} (h : WiresFit s) (p : PortId) : WiresFit (takeAbortCheck p s) := by
  unfold Machine.takeAbortCheck
  split
  · exact h.refuse ..
  · exact ((h.of_same (.zeroUnderTest s)).modCheck _).endCheck.answer ..

theorem WiresFit.modEvents {s : State} (h : WiresFit s) (p : PortId) (f : PortEvents → PortEvents) :
    WiresFit (s.modEvents p f) := h.of_same ⟨rfl, rfl⟩

theorem WiresFit.takeClearEvents {s : State} (h : WiresFit s) (p : PortId) (flags : Byte) :
    WiresFit (takeClearEvents p flags s) := by
  unfold Machine.takeClearEvents
  split
  · exact h.refuse ..
  · exact (h.modEvents ..).answer ..

theorem WiresFit.takeSetAttention {s : State} (h : WiresFit s) (p : PortId) (mask : Byte) :
    WiresFit (takeSetAttention p mask s) := by
  unfold Machine.takeSetAttention
  split
  · exact h.refuse ..
  · exact (h.modEvents ..).answer ..

/-! ### Every command -/

theorem WiresFit.runCommand {s : State} (h : WiresFit s) (i : Instr) : WiresFit (runCommand i s) := by
  cases i with
  | echo p data => exact h.takeEcho p data
  | setPort p timeout => exact h.takeSetPort p timeout
  | portReset p target => exact h.takePortReset p target
  | deviceRestart p => exact h.takeDeviceRestart p
  | writeMap p fs => exact h.takeWriteMap p fs
  | readMap p target => exact h.takeReadMap p target
  | translate p page => exact h.takeTranslate p page
  | readWords p page offset count => exact h.takeReadWords p page offset count
  | writeWords p page offset count words => exact h.takeWriteWords p page offset count words
  | clearFaults p pages kinds off => exact h.takeClearFaults p pages kinds off
  | defineContext p slot block => exact h.takeDefineContext p slot block
  | setParams p slot block => exact h.takeSetParams p slot block
  | readContext p slot => exact h.takeReadContext p slot
  | clearContext p slot => exact h.takeClearContext p slot
  | freeContext p slot => exact h.takeFreeContext p slot
  | writeGate p gate present fields => exact h.takeWriteGate p gate present fields
  | readGate p first count => exact h.takeReadGate p first count
  | invoke p gate => exact h.takeInvoke p gate
  | hold p slot => exact h.takeHold p slot
  | resume p slot => exact h.takeResume p slot
  | abort p slot => exact h.takeAbort p slot
  | configLine p line fields => exact h.takeConfigLine p line fields
  | clearLine p line => exact h.takeClearLine p line
  | setTimer p reload run => exact h.takeSetTimer p reload run
  | startCheck p pages request => exact h.takeStartCheck p pages request
  | abortCheck p => exact h.takeAbortCheck p
  | clearEvents p flags => exact h.takeClearEvents p flags
  | setAttention p mask => exact h.takeSetAttention p mask
  | readCompletions p => exact (h.modEvents ..).answer ..
  | readPageFaults | readRun | readLines | readCheck | readEvents => exact h.answer ..
  | select | deselect | byteExchange | receiveTimerExpiry | dataRunWordAccess | elementStep | pinLevelChange
  | debounceExpiry | validationExpiry | intervalTimerExpiry | referenceTestComplete | pageTestComplete
  | pairTestComplete | powerOn | startupComplete | resetAssert | resetRelease | remainingCountFalls => exact h

end Sys2Proof.Machine
end

section
/-! PROOFS. Every event, and so every step, keeps every line and every port fitting. -/

namespace Sys2Proof.Machine

/-! ### Frames (R163 to R166) -/

theorem WiresFit.takeFrame {s : State} (h : WiresFit s) (p : PortId) (frame : List Byte) :
    WiresFit (takeFrame p frame s) := by
  unfold Machine.takeFrame
  split
  · exact h.runCommand _
  · exact h.refuse ..

theorem WiresFit.frameCompleted {s : State} (h : WiresFit s) (p : PortId) (frame : List Byte) :
    WiresFit (frameCompleted p frame s) := by
  unfold Machine.frameCompleted
  split
  · exact h.takeFrame p frame
  · rename_i run hrun
    exact h.modPort ((h.ports p).keep (by rw [hrun]; rfl) frame)

/-- A first byte of 3 to 255 begins a frame of that length; 1 and 2 are refused, and the rest of the period is passed
over (R163, R165). -/
theorem WiresFit.takeLength {s : State} (h : WiresFit s) {p : PortId} (hselected : (s.port p).selected = true)
    (hreceive : (s.port p).receive = .waitLength) (b : Byte) : WiresFit (s.takeLength p b) := by
  have fits := h.ports p
  unfold State.takeLength
  split_ifs with hzero hshort
  · exact h
  · have stopped := fits.timer_stopped (by simp [hreceive])
    have discarding := fits.discarding hselected
    rw [← stopped] at discarding
    exact (h.modPort (f := fun pt => { pt with receive := .discarding }) discarding).refuse ..
  · have low : 3 ≤ b.toNat := by
      simp only [← BitVec.toNat_inj, BitVec.toNat_ofNat] at hzero hshort
      omega
    refine h.modPort (fits.receiving hselected low (by omega) ?_ ?_ _)
    · show 1 < b.toNat
      omega
    · simp [byteOfNat]

/-- The L-th byte completes the frame; one before it leaves the frame shorter than L (R164). -/
theorem WiresFit.addByte {s : State} (h : WiresFit s) {p : PortId} {L : Nat} {bytes : List Byte}
    (hreceive : (s.port p).receive = .receiving L bytes) (b : Byte) : WiresFit (s.addByte p L (bytes ++ [b])) := by
  have fits := h.ports p
  obtain ⟨assembly, -⟩ := h.ports p
  obtain ⟨selected, low, high, short, first⟩ := assembly L bytes hreceive
  unfold State.addByte
  split
  · exact (h.modPort fits.frameDone).frameCompleted ..
  · rename_i hmore
    have longer : (bytes ++ [b]).length < L := by
      rw [List.length_append, List.length_singleton] at hmore ⊢
      omega
    have head : (bytes ++ [b]).head? = some (byteOfNat L) := by simp [List.head?_append, first]
    exact h.modPort (f := fun pt => { pt with receive := .receiving L (bytes ++ [b]) })
      (fits.receiving selected low high longer head (s.port p).receiveTimer)

theorem WiresFit.takeIn {s : State} (h : WiresFit s) {p : PortId} (hselected : (s.port p).selected = true) (b : Byte) :
    WiresFit (s.takeIn p b) := by
  unfold State.takeIn
  split
  · rename_i hreceive _
    exact h.takeLength hselected hreceive b
  · exact h
  · rename_i hreceive
    exact h.addByte hreceive b
  · exact h

theorem WiresFit.byteExchange {s t : State} (h : WiresFit s) {p : PortId} {b : Byte}
    (hnext : execByteExchange p b s = .next t) : WiresFit t := by
  unfold execByteExchange at hnext
  split at hnext
  · rename_i hselected
    split at hnext <;> cases hnext
    · exact (h.modPort (h.ports p).shiftOut).takeIn (by simpa using hselected) b
    all_goals exact h.modPort (h.ports p)
  · cases hnext
    exact h

/-! ### Data runs (R13, R14) -/

theorem WiresFit.continueRun {s : State} (h : WiresFit s) (p : PortId) (run : DataRun) :
    WiresFit (s.continueRun p run) := h.modPort ((h.ports p).withRun run)

/-- A run ends with its answer, and the kept frame, if there is one, is taken: in both states no run is in progress and
no frame is kept. -/
theorem WiresFit.endRun {s : State} (h : WiresFit s) (p : PortId) (code : Byte) (st : Status) (rs : List Byte) :
    WiresFit (s.endRun p code st rs) := by
  have released := (h.ports p).released
  cases hkept : (s.port p).kept with
  | none =>
    rw [State.endRun_of_unkept hkept]
    rw [← hkept] at released
    have ended : WiresFit (s.modPort p fun pt => { pt with run := none }) := h.modPort released
    exact ended.answer ..
  | some frame =>
    rw [State.endRun_of_kept hkept]
    have ended : WiresFit (s.modPort p fun pt => { pt with run := none, kept := none }) := h.modPort released
    refine WiresFit.takeFrame ?_ p frame
    have same : (s.runEnded p code st rs).modPort p (fun pt => { pt with kept := none }) =
        (s.modPort p fun pt => { pt with run := none, kept := none }).answer p code st rs := by
      simp only [State.runEnded, State.answer, State.modPort_modPort, Port.respond]
    rw [same]
    exact ended.answer ..

theorem WiresFit.accessRead {s : State} (h : WiresFit s) (p : PortId) (fails : Bool) (a : LogicalAddress) (left : Nat)
    (got : List Word) : WiresFit (s.accessRead p fails a left got) := by
  unfold State.accessRead
  split
  · exact h.endRun ..
  · dsimp only
    split_ifs
    · exact (h.of_same (.wordCheckFailure ..)).endRun ..
    · exact h.endRun ..
    · exact h.continueRun ..

theorem WiresFit.accessWrite {s : State} (h : WiresFit s) (p : PortId) (a : LogicalAddress) (rest : List Word)
    (written : Nat) : WiresFit (s.accessWrite p a rest written) := by
  have stored (m : Memory) : WiresFit { s with words := m } := h.of_same ⟨rfl, rfl⟩
  unfold State.accessWrite
  split
  · exact h.endRun ..
  · split
    · exact h.endRun ..
    · dsimp only
      split_ifs
      · exact (stored _).endRun ..
      · exact (stored _).continueRun ..

theorem WiresFit.accessWord {s : State} (h : WiresFit s) (p : PortId) (fails : Bool) :
    WiresFit (s.accessWord p fails) := by
  unfold State.accessWord
  split
  · exact h
  · exact h.accessRead ..
  · exact h.accessWrite ..

/-! ### Lines and the interval timer (R124 to R129, R141) -/

theorem WiresFit.enterPending {s : State} (h : WiresFit s) {l : LineId} (hstate : (s.line l).state ≠ .disabled) :
    WiresFit (s.enterPending l) :=
  (h.modLine ((h.lines l).stopped hstate rfl)).servicePass

theorem WiresFit.qualifyingEdge {s : State} (h : WiresFit s) {l : LineId} (hsource : (s.line l).config.source = .pin)
    (hstate : (s.line l).state = .listening) : WiresFit (s.qualifyingEdge l) := by
  have enabled : (s.line l).state ≠ .disabled := by simp [hstate]
  unfold State.qualifyingEdge
  split_ifs
  · exact h.modLine ((h.lines l).startDebounce hsource hstate)
  · exact h.modLine ((h.lines l).startValidation hsource enabled)
  · exact h.enterPending enabled

theorem WiresFit.pinChanged {s : State} (h : WiresFit s) (l : LineId) (level : PinLevel) :
    WiresFit (s.pinChanged l level) := by
  unfold State.pinChanged
  split
  · rename_i hsource hstate
    split_ifs
    · exact h.qualifyingEdge hsource hstate
    · exact h
  · rename_i hsource hstate
    split_ifs
    · exact h
    · exact h.modLine ((h.lines l).toListening (by simp [hstate]))
  all_goals exact h

theorem WiresFit.pinLevelChange {s t : State} (h : WiresFit s) {l : LineId} {level : PinLevel}
    (hnext : execPinLevelChange l level s = .next t) : WiresFit t := by
  have sampled : WiresFit (s.setPin l level) := h.of_same ⟨rfl, rfl⟩
  unfold execPinLevelChange at hnext
  split at hnext
  · cases hnext
    exact h
  · split at hnext <;> cases hnext
    · exact sampled.pinChanged l level
    all_goals exact sampled

theorem WiresFit.debounceExpired {s : State} (h : WiresFit s) (l : LineId) : WiresFit (s.debounceExpired l) := by
  unfold State.debounceExpired
  split
  · rename_i hstate
    have enabled : (s.line l).state ≠ .disabled := by simp [hstate]
    split_ifs
    · exact h.modLine ((h.lines l).toListening enabled)
    · exact h.modLine ((h.lines l).startValidation ((h.lines l).source_of_debouncing hstate) enabled)
    · exact h.enterPending enabled
  all_goals exact h

theorem WiresFit.validationExpired {s : State} (h : WiresFit s) (l : LineId) : WiresFit (s.validationExpired l) := by
  unfold State.validationExpired
  split
  · rename_i hstate
    exact h.enterPending (by simp [hstate])
  all_goals exact h

theorem Line.takesExpiry_iff (n : Line) :
    n.takesExpiry = true ↔ n.config.enable = true ∧ n.config.source = .timer ∧ n.state = .listening := by
  simp [Line.takesExpiry, and_assoc]

/-- The state that an expiry of the interval timer leaves before the service pass (R129, R141). -/
def State.expiryTaken (s : State) : State :=
  { s with
    timer := { s.timer with remaining := s.timer.reload }
    lines := Vector.ofFn fun l =>
      if (s.line l).takesExpiry then { s.line l with state := .pending } else s.line l }

theorem State.intervalExpired_eq (s : State) :
    s.intervalExpired = s.expiryTaken.serviceIf ((List.finRange 8).any fun l => (s.line l).takesExpiry) := rfl

theorem State.expiryTaken_line (s : State) (l : LineId) :
    s.expiryTaken.line l = if (s.line l).takesExpiry then { s.line l with state := .pending } else s.line l :=
  ofFn_get ..

theorem WiresFit.intervalExpired {s : State} (h : WiresFit s) : WiresFit s.intervalExpired := by
  have taken : WiresFit s.expiryTaken := by
    refine ⟨fun l => ?_, h.ports⟩
    rw [State.expiryTaken_line]
    split
    · rename_i htakes
      obtain ⟨-, -, hstate⟩ := (s.line l).takesExpiry_iff.mp htakes
      exact (h.lines l).moved (by simp [hstate, LineState.isStill]) rfl
    · exact h.lines l
  rw [State.intervalExpired_eq]
  exact taken.serviceIf _

theorem WiresFit.countFalls {s : State} (h : WiresFit s) : WiresFit s.countFalls := by
  unfold State.countFalls
  split_ifs
  · exact h
  · exact h.intervalExpired
  · exact h.of_same ⟨rfl, rfl⟩

/-! ### Every event, every step -/

theorem WiresFit.whenOperating {s t : State} (h : WiresFit s) (effect : State → State) (heffect : WiresFit (effect s))
    (hnext : whenOperating s effect = .next t) : WiresFit t := by
  rw [whenOperating_next] at hnext
  cases hnext
  split
  · exact heffect
  · exact h

theorem WiresFit.startupComplete {s t : State} (h : WiresFit s) {straps : Vector Level 4}
    (hnext : execStartupComplete straps s = .next t) : WiresFit t := by
  unfold execStartupComplete at hnext
  split at hnext <;> cases hnext
  · exact .start ..
  · exact .start ..
  · exact h
  · exact h

theorem WiresFit.resetRelease {s t : State} (h : WiresFit s) {straps : Vector Level 4}
    (hnext : execResetRelease straps s = .next t) : WiresFit t := by
  unfold execResetRelease at hnext
  split at hnext <;> cases hnext
  · exact .start ..
  · exact .start ..
  · exact h
  · exact h

/-- A command's row changes nothing, or the command is taken, or its frame is kept during the port's data run (R14). -/
theorem takenAt_next_kept_in_run (p : PortId) (i : Instr) (s : State) (effect : State → State) :
    takenAt p i s effect = .next s ∨ takenAt p i s effect = .next (effect s) ∨
      ((s.port p).run.isSome = true ∧
        takenAt p i s effect = .next (s.modPort p fun pt => pt.keep (encodeFrame i))) := by
  rw [takenAt, whenOperating_next]
  split
  · cases hrun : (s.port p).run with
    | none => exact .inr (.inl rfl)
    | some run => exact .inr (.inr ⟨rfl, rfl⟩)
  · exact .inl rfl

theorem WiresFit.command {i : Instr} {p : PortId} (hp : i.commandPort = some p) {s t : State} (h : WiresFit s)
    (hnext : exec i s = .next t) : WiresFit t := by
  rw [exec_command hp] at hnext
  rcases takenAt_next_kept_in_run p i s (Machine.runCommand i) with h' | h' | ⟨hrun, h'⟩ <;> rw [h'] at hnext <;>
    cases hnext
  · exact h
  · exact h.runCommand i
  · exact h.modPort ((h.ports p).keep hrun _)

theorem WiresFit.exec {i : Instr} {s t : State} (h : WiresFit s) (hnext : exec i s = .next t) : WiresFit t := by
  cases hp : i.commandPort with
  | some p => exact h.command hp hnext
  | none =>
    cases i with
    | select p => cases hnext; exact h.modPort (h.ports p).onSelect
    | deselect p => cases hnext; exact h.modPort (h.ports p).onDeselect
    | byteExchange p b => exact h.byteExchange hnext
    | receiveTimerExpiry p =>
      exact h.whenOperating (fun s => s.modPort p Port.onTimeout) (h.modPort (h.ports p).onTimeout) hnext
    | dataRunWordAccess p fails => exact h.whenOperating (fun s => s.accessWord p fails) (h.accessWord p fails) hnext
    | elementStep f => exact h.whenOperating (fun s => s.elementStep f) (h.elementStep f) hnext
    | pinLevelChange l level => exact h.pinLevelChange hnext
    | debounceExpiry l => exact h.whenOperating (fun s => s.debounceExpired l) (h.debounceExpired l) hnext
    | validationExpiry l => exact h.whenOperating (fun s => s.validationExpired l) (h.validationExpired l) hnext
    | intervalTimerExpiry =>
      refine h.whenOperating (fun s => if s.timer.running then s.intervalExpired else s) ?_ hnext
      split
      · exact h.intervalExpired
      · exact h
    | referenceTestComplete o =>
      exact h.whenOperating (fun s => s.completeReference o) (h.completeReference o) hnext
    | pageTestComplete o => exact h.whenOperating (fun s => s.completePage o) (h.completePage o) hnext
    | pairTestComplete o => exact h.whenOperating (fun s => s.completePair o) (h.completePair o) hnext
    | powerOn => cases hnext; exact h.stop _
    | startupComplete straps => exact h.startupComplete hnext
    | resetAssert => cases hnext; exact h.stop _
    | resetRelease straps => exact h.resetRelease hnext
    | remainingCountFalls => exact h.whenOperating State.countFalls h.countFalls hnext
    | _ => cases hp

/-- Settles O58: each operation on a line or a port keeps it fitting, and so does every command and event. -/
theorem stepsKeepLinesAndPortsFitting : Obligations.StepsKeepLinesAndPortsFitting := by
  intro s t hlines hports hstep
  have fit : WiresFit s := ⟨hlines, hports⟩
  have after : WiresFit t := by
    unfold step at hstep
    split at hstep
    · cases hstep
      exact fit
    · rename_i rest _
      have taken : WiresFit (s.withPending rest) := fit.of_same ⟨rfl, rfl⟩
      exact taken.exec hstep
  exact ⟨after.lines, after.ports⟩

end Sys2Proof.Machine
end

section
/-! PROOFS. The line and timer commands: CONFIG_LINE (R137, R138), CLEAR_LINE (R139) and SET_TIMER (R142). -/

namespace Sys2Proof.Machine

/-! ### CONFIG_LINE -/

theorem parseSource_le {b : Byte} {source : LineSource} (h : parseSource b = some source) : b.toNat ≤ 1 := by
  unfold parseSource at h
  split at h
  · omega
  · omega
  · cases h

theorem parseEdge_le {b : Byte} {edge : Edge} (h : parseEdge b = some edge) : b.toNat ≤ 1 := by
  unfold parseEdge at h
  split at h
  · omega
  · omega
  · cases h

theorem parseSource_of_eq {b : Byte} {source : LineSource} (h : b = if source = .pin then 0 else 1) :
    parseSource b = some source := by
  subst h
  cases source <;> rfl

theorem parseEdge_of_eq {b : Byte} {edge : Edge} (h : b = if edge = .rising then 0 else 1) :
    parseEdge b = some edge := by
  subst h
  cases edge <;> rfl

/-- The eight fields of a configuration, each read on its own (R137). -/
theorem parseLineConfig_eq_some {f : LineFields} {cfg : LineConfig} :
    parseLineConfig f = some cfg ↔
      f.enable = cfg.enable ∧ parseSource f.source = some cfg.source ∧ parseEdge f.edge = some cfg.edge ∧
        f.debounce.toNat = cfg.debounce.val ∧ f.validation.toNat = cfg.validation.val ∧
        f.priority.toNat = cfg.priority.val ∧ f.gate.toNat = cfg.gate.val ∧ f.report.toNat = cfg.report.val := by
  simp only [← indexOf_eq_some, parseLineConfig, Option.pure_def, Option.bind_eq_bind, Option.bind_eq_some_iff]
  constructor
  · rintro ⟨source, hsource, edge, hedge, debounce, hdebounce, validation, hvalidation, priority, hpriority, gate, hgate,
      report, hreport, hcfg⟩
    cases hcfg
    exact ⟨rfl, hsource, hedge, hdebounce, hvalidation, hpriority, hgate, hreport⟩
  · rintro ⟨henable, hsource, hedge, hdebounce, hvalidation, hpriority, hgate, hreport⟩
    exact ⟨_, hsource, _, hedge, _, hdebounce, _, hvalidation, _, hpriority, _, hgate, _, hreport, by rw [henable]⟩

/-- A field outside its range (R137). -/
theorem parseLineConfig_eq_none {f : LineFields}
    (h : 1 < f.source.toNat ∨ 1 < f.edge.toNat ∨ 63 < f.debounce.toNat ∨ 63 < f.validation.toNat ∨
      7 < f.priority.toNat ∨ 63 < f.gate.toNat ∨ 3 < f.report.toNat) : parseLineConfig f = none := by
  refine Option.eq_none_iff_forall_ne_some.mpr fun cfg hcfg => ?_
  obtain ⟨-, hsource, hedge, hdebounce, hvalidation, hpriority, hgate, hreport⟩ := parseLineConfig_eq_some.mp hcfg
  have source := parseSource_le hsource
  have edge := parseEdge_le hedge
  omega

/-- The checks of R137: the level, then the line and the fields. -/
theorem checkConfigLine_outcomes (p : PortId) (line : Byte) (f : LineFields) (s : State) :
    (1 < s.level p → checkConfigLine p line f s = .error .denied) ∧
    (s.level p ≤ 1 →
      (indexOf 8 line = none ∨ parseLineConfig f = none → checkConfigLine p line f s = .error .param) ∧
      ∀ l cfg, indexOf 8 line = some l → parseLineConfig f = some cfg →
        checkConfigLine p line f s = .ok (l, cfg)) := by
  unfold checkConfigLine
  refine ⟨fun hlevel => if_pos hlevel, fun hlevel => ?_⟩
  rw [if_neg (not_lt.mpr hlevel)]
  refine ⟨fun hbad => ?_, fun l cfg hl hcfg => by rw [hl, hcfg]⟩
  rcases hbad with hline | hfields
  · rw [hline]
  · rw [hfields]
    cases indexOf 8 line <;> rfl

/-- Settles O29: the command answers what `checkConfigLine` finds; where it finds a line and a configuration, the record
is written whole. -/
theorem configLineRewritesALine : Obligations.ConfigLineRewritesALine := by
  intro p line f s htakes run bad
  have hrun : run = .next (takeConfigLine p line f s) := exec_of_takes rfl htakes
  have refused {st : Status} (h : checkConfigLine p line f s = .error st) : run = .next (s.answer p 0x50 st []) := by
    rw [hrun, takeConfigLine, h]
    rfl
  obtain ⟨denied, allowed⟩ := checkConfigLine_outcomes p line f s
  refine ⟨fun hlevel => refused (denied hlevel), fun hlevel hbad => ?_, fun l cfg hlevel hl henable hsource hedge
    hdebounce hvalidation hpriority hgate hreport => ?_⟩
  · obtain ⟨param, -⟩ := allowed hlevel
    rcases hbad with hline | hfields
    · exact refused (param (.inl (indexOf_eq_none.mpr hline)))
    · exact refused (param (.inr (parseLineConfig_eq_none hfields)))
  · obtain ⟨-, ok⟩ := allowed hlevel
    have parsed : parseLineConfig f = some cfg := parseLineConfig_eq_some.mpr
      ⟨henable.symm, parseSource_of_eq hsource, parseEdge_of_eq hedge, hdebounce, hvalidation, hpriority, hgate, hreport⟩
    rw [hrun, takeConfigLine, ok l cfg (indexOf_eq_some.mpr hl) parsed, ← henable]
    rfl

/-! ### CLEAR_LINE -/

/-- The checks of R139: the line, the port, the line's state. -/
theorem checkClearLine_outcomes (p : PortId) (line : Byte) (s : State) :
    (indexOf 8 line = none → checkClearLine p line s = .error .param) ∧
    ∀ l, indexOf 8 line = some l →
      (1 < s.level p ∧ (s.line l).config.report ≠ p → checkClearLine p line s = .error .denied) ∧
      (s.level p ≤ 1 ∨ (s.line l).config.report = p →
        ((s.line l).state ≠ .refused → checkClearLine p line s = .error .state) ∧
        ((s.line l).state = .refused → checkClearLine p line s = .ok l)) := by
  unfold checkClearLine
  refine ⟨fun hnone => by rw [hnone], fun l hl => ?_⟩
  rw [hl]
  dsimp only
  refine ⟨fun hdenied => if_pos hdenied, fun hallowed => ?_⟩
  have passes : ¬(1 < s.level p ∧ (s.line l).config.report ≠ p) := by
    rw [not_and_or, not_lt, not_not]
    exact hallowed
  rw [if_neg passes]
  exact ⟨fun hstate => if_pos hstate, fun hstate => if_neg (not_not_intro hstate)⟩

/-- CLEAR_LINE, by what `checkClearLine` finds (R139). -/
theorem exec_clearLine {p : PortId} {line : Byte} {s : State} (htakes : s.takes p) :
    (∀ st, checkClearLine p line s = .error st → exec (.clearLine p line) s = .next (s.answer p 0x51 st [])) ∧
    ∀ l, checkClearLine p line s = .ok l →
      exec (.clearLine p line) s = .next ((s.modLine l Line.toListening).answer p 0x51 .ok []) := by
  have run : exec (.clearLine p line) s = .next (takeClearLine p line s) := exec_of_takes rfl htakes
  refine ⟨fun st hst => ?_, fun l hl => ?_⟩
  · rw [run, takeClearLine, hst]
    rfl
  · rw [run, takeClearLine, hl]

/-! ### SET_TIMER -/

/-- The checks of R142: the level, then the reload value. -/
theorem checkSetTimer_outcomes (p : PortId) (reload : BitVec 16) (s : State) :
    (1 < s.level p → checkSetTimer p reload s = some .denied) ∧
    (s.level p ≤ 1 →
      (reload = 0 → checkSetTimer p reload s = some .param) ∧ (reload ≠ 0 → checkSetTimer p reload s = none)) := by
  unfold checkSetTimer
  refine ⟨fun hlevel => if_pos hlevel, fun hlevel => ?_⟩
  rw [if_neg (not_lt.mpr hlevel)]
  exact ⟨fun hzero => if_pos hzero, fun hreload => if_neg hreload⟩

/-- SET_TIMER, by what `checkSetTimer` finds (R142). -/
theorem exec_setTimer {p : PortId} {reload : BitVec 16} {run : Bool} {s : State} (htakes : s.takes p) :
    (∀ st, checkSetTimer p reload s = some st →
      exec (.setTimer p reload run) s = .next (s.answer p 0x53 st [])) ∧
    (checkSetTimer p reload s = none →
      exec (.setTimer p reload run) s =
        .next (({ s with timer := s.timer.set reload run } : State).answer p 0x53 .ok [])) := by
  have taken : exec (.setTimer p reload run) s = .next (takeSetTimer p reload run s) := exec_of_takes rfl htakes
  refine ⟨fun st hst => ?_, fun hnone => ?_⟩
  · rw [taken, takeSetTimer, hst]
    rfl
  · rw [taken, takeSetTimer, hnone]

/-- Settles O30: the refusals of R139 and R142 in their order, the line released, and the timer set. -/
theorem clearLineAndSetTimer : Obligations.ClearLineAndSetTimer := by
  refine ⟨fun p line s htakes => ?_, fun p reload run s htakes => ?_⟩
  · obtain ⟨refused, cleared⟩ := exec_clearLine (line := line) htakes
    obtain ⟨param, lines⟩ := checkClearLine_outcomes p line s
    refine ⟨fun hline => refused _ (param (indexOf_eq_none.mpr hline)), fun l hl => ?_⟩
    obtain ⟨denied, allowed⟩ := lines l (indexOf_eq_some.mpr hl)
    refine ⟨fun hdenied => refused _ (denied hdenied), fun hallowed => ?_⟩
    obtain ⟨other, ok⟩ := allowed hallowed
    exact ⟨fun hstate => refused _ (other hstate), fun hstate => cleared l (ok hstate)⟩
  · obtain ⟨refused, written⟩ := exec_setTimer (reload := reload) (run := run) htakes
    obtain ⟨denied, allowed⟩ := checkSetTimer_outcomes p reload s
    refine ⟨fun hlevel => refused _ (denied hlevel), fun hlevel hzero => ?_, fun hlevel hreload => ?_⟩
    · obtain ⟨param, -⟩ := allowed hlevel
      exact refused _ (param hzero)
    · obtain ⟨-, ok⟩ := allowed hlevel
      exact written (ok hreload)

end Sys2Proof.Machine
end

section
/-! PROOFS. The events of the Trigger Unit: pin changes (R124, R125, R127), the expiries of the two qualification timers
(R126, R127), and the interval timer (R129, R141). -/

namespace Sys2Proof.Machine

theorem activeLevel_eq (e : Edge) : activeLevel e = if e = .rising then .high else .low := by
  cases e <;> rfl

/-! ### A change of a pin -/

/-- While the part operates, a change of a pin is sampled, and then its line acts on it (R124, R143). -/
theorem exec_pinLevelChange {l : LineId} {level : PinLevel} {s : State} (hphase : s.phase = .operating)
    (hchange : s.pins[l] ≠ level) :
    exec (.pinLevelChange l level) s = .next ((s.setPin l level).pinChanged l level) := by
  show execPinLevelChange l level s = _
  rw [execPinLevelChange, if_neg hchange, hphase]

/-- A change to its active level is a qualifying edge of a PIN line in LISTENING (R124, R125). -/
theorem State.pinChanged_active {s : State} {l : LineId} {level : PinLevel} (hsource : (s.line l).config.source = .pin)
    (hstate : (s.line l).state = .listening) (hactive : level = activeLevel (s.line l).config.edge) :
    s.pinChanged l level = s.qualifyingEdge l := by
  rw [State.pinChanged, hsource, hstate]
  exact if_pos hactive

/-- A change to its inactive level returns a PIN line in VALIDATING to LISTENING (R127). -/
theorem State.pinChanged_inactive {s : State} {l : LineId} {level : PinLevel}
    (hsource : (s.line l).config.source = .pin) (hstate : (s.line l).state = .validating)
    (hinactive : level ≠ activeLevel (s.line l).config.edge) :
    s.pinChanged l level = s.modLine l Line.toListening := by
  rw [State.pinChanged, hsource, hstate]
  exact if_neg hinactive

/-- Every other line passes over its pin (R125, R128, R129). -/
theorem State.pinChanged_passed {s : State} {l : LineId} {level : PinLevel}
    (h : (s.line l).config.source = .timer ∨ (s.line l).state ∈ [.disabled, .debouncing, .pending, .refused] ∨
      ((s.line l).state = .listening ∧ level ≠ activeLevel (s.line l).config.edge) ∨
      ((s.line l).state = .validating ∧ level = activeLevel (s.line l).config.edge)) :
    s.pinChanged l level = s := by
  unfold State.pinChanged
  split
  · rename_i hsource hstate
    exact if_neg (by simpa [hsource, hstate] using h)
  · rename_i hsource hstate
    exact if_pos (by simpa [hsource, hstate] using h)
  all_goals rfl

/-- The three outcomes of a qualifying edge, by D and V (R125). -/
theorem State.qualifyingEdge_outcomes (s : State) (l : LineId) :
    ((s.line l).config.debounce ≠ 0 → s.qualifyingEdge l = s.modLine l Line.startDebounce) ∧
    ((s.line l).config.debounce = 0 → (s.line l).config.validation ≠ 0 →
      s.qualifyingEdge l = s.modLine l Line.startValidation) ∧
    ((s.line l).config.debounce = 0 → (s.line l).config.validation = 0 → s.qualifyingEdge l = s.enterPending l) := by
  unfold State.qualifyingEdge
  refine ⟨fun hd => if_pos hd, fun hd hv => ?_, fun hd hv => ?_⟩
  · rw [if_neg (not_not_intro hd), if_pos hv]
  · rw [if_neg (not_not_intro hd), if_neg (not_not_intro hv)]

/-- Settles O44: the pin is sampled, and the line acts on it by its source and state. -/
theorem pinChangesQualifyALine : Obligations.PinChangesQualifyALine := by
  intro l level s hphase hchange run n active becomes
  have hrun : run = .next ((s.setPin l level).pinChanged l level) := exec_pinLevelChange hphase hchange
  have active_iff : active ↔ level = activeLevel n.config.edge := by rw [activeLevel_eq]
  refine ⟨fun hsource hstate hactive => ?_, fun hsource hstate hinactive => ?_, fun hother => ?_⟩
  · obtain ⟨debounces, validates, pends⟩ := (s.setPin l level).qualifyingEdge_outcomes l
    have qualifies : run = .next ((s.setPin l level).qualifyingEdge l) :=
      hrun.trans (congrArg _ (State.pinChanged_active hsource hstate (active_iff.mp hactive)))
    exact ⟨fun hd => qualifies.trans (congrArg _ (debounces hd)),
      fun hd hv => qualifies.trans (congrArg _ (validates hd hv)),
      fun hd hv => qualifies.trans (congrArg _ (pends hd hv))⟩
  · exact hrun.trans (congrArg _ (State.pinChanged_inactive hsource hstate (mt active_iff.mpr hinactive)))
  · rw [active_iff] at hother
    exact hrun.trans (congrArg _ (State.pinChanged_passed hother))

/-! ### The qualification timers -/

/-- The debounce expiry of a DEBOUNCING line, by the level of its pin and V (R126). -/
theorem State.debounceExpired_outcomes {s : State} {l : LineId} (hstate : (s.line l).state = .debouncing) :
    (s.pins[l] ≠ activeLevel (s.line l).config.edge → s.debounceExpired l = s.modLine l Line.toListening) ∧
    (s.pins[l] = activeLevel (s.line l).config.edge →
      ((s.line l).config.validation ≠ 0 → s.debounceExpired l = s.modLine l Line.startValidation) ∧
      ((s.line l).config.validation = 0 → s.debounceExpired l = s.enterPending l)) := by
  unfold State.debounceExpired
  rw [hstate]
  dsimp only
  refine ⟨fun hinactive => if_pos hinactive, fun hactive => ?_⟩
  rw [if_neg (not_not_intro hactive)]
  exact ⟨fun hv => if_pos hv, fun hv => if_neg (not_not_intro hv)⟩

theorem State.debounceExpired_other {s : State} {l : LineId} (hstate : (s.line l).state ≠ .debouncing) :
    s.debounceExpired l = s := by
  unfold State.debounceExpired
  split
  · rename_i hdebouncing
    exact absurd hdebouncing hstate
  all_goals rfl

theorem State.validationExpired_validating {s : State} {l : LineId} (hstate : (s.line l).state = .validating) :
    s.validationExpired l = s.enterPending l := by
  rw [State.validationExpired, hstate]

theorem State.validationExpired_other {s : State} {l : LineId} (hstate : (s.line l).state ≠ .validating) :
    s.validationExpired l = s := by
  unfold State.validationExpired
  split
  · rename_i hvalidating
    exact absurd hvalidating hstate
  all_goals rfl

/-- Settles O45: each expiry has the effect of its timer on the line that waits for it, and none on another. -/
theorem qualificationTimersMoveTheirLine : Obligations.QualificationTimersMoveTheirLine := by
  intro l s hphase n active becomes pending
  have debounce : exec (.debounceExpiry l) s = .next (s.debounceExpired l) :=
    whenOperating_of_operating hphase fun s => s.debounceExpired l
  have validation : exec (.validationExpiry l) s = .next (s.validationExpired l) :=
    whenOperating_of_operating hphase fun s => s.validationExpired l
  have active_iff : active ↔ s.pins[l] = activeLevel n.config.edge := by rw [activeLevel_eq]
  refine ⟨fun hstate => ?_, fun hstate => ?_, fun hstate => ?_, fun hstate => ?_⟩
  · obtain ⟨returns, qualifies⟩ := State.debounceExpired_outcomes hstate
    refine ⟨fun hinactive => ?_, fun hactive hv => ?_, fun hactive hv => ?_⟩
    · exact debounce.trans (congrArg _ (returns (mt active_iff.mpr hinactive)))
    · obtain ⟨validates, -⟩ := qualifies (active_iff.mp hactive)
      exact debounce.trans (congrArg _ (validates hv))
    · obtain ⟨-, pends⟩ := qualifies (active_iff.mp hactive)
      exact debounce.trans (congrArg _ (pends hv))
  · exact validation.trans (congrArg _ (State.validationExpired_validating hstate))
  · rw [debounce, State.debounceExpired_other hstate]
  · rw [validation, State.validationExpired_other hstate]

/-! ### The interval timer -/

/-- The two rows of the timer while the part operates (R141). -/
theorem exec_intervalTimerExpiry {s : State} (hphase : s.phase = .operating) :
    exec .intervalTimerExpiry s = .next (if s.timer.running then s.intervalExpired else s) :=
  whenOperating_of_operating hphase fun s => if s.timer.running then s.intervalExpired else s

theorem exec_remainingCountFalls {s : State} (hphase : s.phase = .operating) :
    exec .remainingCountFalls s = .next s.countFalls := whenOperating_of_operating hphase State.countFalls

/-- The fall of the count: nothing while STOPPED, the expiry at a count of 1 or less, else one less (R141). -/
theorem State.countFalls_outcomes (s : State) :
    (s.timer.running = false → s.countFalls = s) ∧
    (s.timer.running = true →
      (s.timer.remaining.toNat ≤ 1 → s.countFalls = s.intervalExpired) ∧
      (1 < s.timer.remaining.toNat →
        s.countFalls = { s with timer := { s.timer with remaining := s.timer.remaining - 1 } })) := by
  unfold State.countFalls
  refine ⟨fun hstopped => by simp [hstopped], fun hruns => ?_⟩
  rw [if_neg (by simp [hruns])]
  exact ⟨fun hlast => if_pos hlast, fun hmore => if_neg (not_le.mpr hmore)⟩

theorem State.intervalExpired_outcomes (s : State) :
    ((∃ l, (s.line l).takesExpiry = true) → s.intervalExpired = s.expiryTaken.servicePass) ∧
    ((∀ l, ¬(s.line l).takesExpiry = true) → s.intervalExpired = s.expiryTaken) := by
  have served_iff : ((List.finRange 8).any fun l => (s.line l).takesExpiry) = true ↔
      ∃ l, (s.line l).takesExpiry = true := by simp
  rw [State.intervalExpired_eq, State.serviceIf]
  exact ⟨fun hsome => if_pos (served_iff.mpr hsome), fun hnone => if_neg (mt served_iff.mp (not_exists.mpr hnone))⟩

/-- The state that an expiry leaves before its service pass differs in the count and in the lines that took it. -/
theorem State.expiryTaken_eq {s : State} (hruns : s.timer.running = true) :
    s.expiryTaken =
      { s with timer := ⟨true, s.timer.reload, s.timer.reload⟩, lines := s.expiryTaken.lines } := by
  rw [← hruns]
  rfl

/-- Settles O46: the expiry reloads the count and makes its lines PENDING before one service pass; a fall above 1 only
counts. -/
theorem intervalTimerExpiresAndCounts : Obligations.IntervalTimerExpiresAndCounts := by
  intro s hphase takes
  have takes_iff (l : LineId) : (s.line l).takesExpiry = true ↔ takes l := (s.line l).takesExpiry_iff
  have expiry := exec_intervalTimerExpiry hphase
  have falls := exec_remainingCountFalls hphase
  obtain ⟨stopped, running⟩ := s.countFalls_outcomes
  refine ⟨fun hstopped => ⟨?_, ?_⟩, fun hruns => ?_⟩
  · rw [expiry, hstopped]
    rfl
  · rw [falls, stopped hstopped]
  · rw [if_pos hruns] at expiry
    obtain ⟨last, more⟩ := running hruns
    obtain ⟨served, unserved⟩ := s.intervalExpired_outcomes
    simp only [takes_iff] at served unserved
    refine ⟨fun hmore => ?_, s.expiryTaken, State.expiryTaken_eq hruns, fun l => ?_, fun hsome => ?_, fun hnone => ?_,
      fun hone => ?_⟩
    · rw [falls, more hmore, ← hruns]
    · rw [State.expiryTaken_line]
      exact ⟨fun htakes => if_pos ((takes_iff l).mpr htakes), fun hno => if_neg (mt (takes_iff l).mp hno)⟩
    · rw [expiry, served hsome]
    · rw [expiry, unserved hnone]
    · rw [falls, expiry, last hone.le]

end Sys2Proof.Machine
end

section
/-! PROOFS. The end of a check (R154, R5, R3): its record, its marks, and CHECK and PAGE before the service pass. -/

namespace Sys2Proof.Machine

/-! ### The record of an ended check -/

theorem CheckRecord.settleResults_results (r : CheckRecord) (g : PhysicalPage) :
    r.settleResults.results[g] =
      if r.aborted = false ∧ r.reference = some .pass ∧ r.results[g] = some .notReached then some .pass
      else r.results[g] := by
  unfold CheckRecord.settleResults
  split
  · rename_i hsettles
    obtain ⟨haborted, hpassed⟩ : r.aborted = false ∧ r.reference = some .pass := by simpa using hsettles
    dsimp only
    rw [ofFn_get]
    simp [haborted, hpassed]
  · rename_i hstands
    exact (if_neg fun ⟨haborted, hpassed, _⟩ => hstands (by simp [haborted, hpassed])).symm

/-- A check that was aborted, or whose reference test did not pass, keeps its results. -/
theorem CheckRecord.settleResults_of_stands {r : CheckRecord} (h : r.aborted = true ∨ r.reference ≠ some .pass) :
    r.settleResults = r := by
  refine if_neg fun hsettles => ?_
  obtain ⟨haborted, hpassed⟩ : r.aborted = false ∧ r.reference = some .pass := by simpa using hsettles
  simp [haborted, hpassed] at h

theorem CheckRecord.settleResults_eq (r : CheckRecord) :
    r.settleResults = { r with results := r.settleResults.results } := by
  unfold CheckRecord.settleResults
  split <;> rfl

theorem CheckRecord.ended_eq (r : CheckRecord) :
    r.ended = { r with state := .ended, current := r.ended.current, results := r.ended.results } := by
  rw [CheckRecord.ended, r.settleResults_eq]

theorem CheckRecord.ended_of_stands {r : CheckRecord} (h : r.aborted = true ∨ r.reference ≠ some .pass) :
    r.ended = { r with state := .ended, current := if r.aborted then r.current else .none } := by
  rw [CheckRecord.ended, CheckRecord.settleResults_of_stands h]

theorem CheckRecord.failed_iff (r : CheckRecord) (g : PhysicalPage) :
    r.failed g = true ↔ r.results[g] ∈ [some PageResult.failPattern, some PageResult.failDecode] := by
  simp [CheckRecord.failed]

/-- The pages that failed are those that had failed before the results are settled. -/
theorem CheckRecord.ended_failed (r : CheckRecord) (g : PhysicalPage) : r.ended.failed g = r.failed g := by
  have results : r.ended.results[g] = r.settleResults.results[g] := rfl
  unfold CheckRecord.failed
  rw [results, r.settleResults_results]
  split
  · rename_i hpass
    obtain ⟨-, -, hresult⟩ := hpass
    simp [hresult]
  · rfl

/-! ### The state that an ended check leaves to its service pass -/

/-- Steps 1 to 6 of R154: what the service pass of an ended check meets. Its fields are read by the lemmas below; the
unifier is kept from unfolding the tables of marks and events. -/
@[irreducible] def State.checkSettled (s : State) : State :=
  (s.closeCheck.raiseAt s.closeCheck.check.startedAt flagCheck).raiseAt s.closeCheck.mapsFailed flagPage

theorem State.endCheck_eq (s : State) : s.endCheck = s.checkSettled.servicePass := by
  unfold State.checkSettled
  rfl

theorem State.checkSettled_check (s : State) : s.checkSettled.check = s.check.ended := by
  unfold State.checkSettled
  rfl

theorem State.checkSettled_heldMark (s : State) (g : PhysicalPage) :
    s.checkSettled.heldMark g = (s.heldMark g && !s.check.selected.getLsbD g.val) := by
  rw [State.checkSettled, State.raiseAt_heldMark, State.raiseAt_heldMark, State.closeCheck_heldMark]

theorem State.checkSettled_eq (s : State) :
    s.checkSettled = { s with
      check := s.check.ended, heldMarks := s.checkSettled.heldMarks, events := s.checkSettled.events } := by
  unfold State.checkSettled State.raiseAt State.closeCheck
  rfl

@[simp] theorem State.closeCheck_eventsAt (s : State) (q : PortId) : s.closeCheck.eventsAt q = s.eventsAt q := by
  unfold State.closeCheck State.eventsAt
  rfl

/-- A port maps a page that failed (R154 step 6). -/
def State.FailedAndMapped (s : State) (q : PortId) : Prop :=
  ∃ g l, s.check.results[g] ∈ [some PageResult.failPattern, some PageResult.failDecode] ∧
    (s.entry q l).page = g ∧ (s.entry q l).access ≠ .absent

theorem State.closeCheck_mapsFailed (s : State) (q : PortId) :
    s.closeCheck.mapsFailed q = true ↔ s.FailedAndMapped q := by
  have failed (g : PhysicalPage) : s.closeCheck.check.failed g = s.check.failed g := s.check.ended_failed g
  simp only [State.mapsFailed, State.FailedAndMapped, List.any_eq_true, List.mem_finRange, true_and,
    Bool.and_eq_true, failed, CheckRecord.failed_iff, State.mapsPage_iff, State.closeCheck_entry, exists_and_left]

theorem State.closeCheck_startedAt (s : State) (q : PortId) :
    s.closeCheck.check.startedAt q = true ↔ s.check.starter = some q := by
  have starter : s.check.ended.starter = s.check.starter := by rw [CheckRecord.ended_eq]
  show s.check.ended.startedAt q = true ↔ _
  rw [CheckRecord.startedAt, starter, decide_eq_true_eq]

/-- The events of a port with CHECK raised where it started the check (R154 step 5). -/
def State.checkRaised (s : State) (q : PortId) : PortEvents :=
  if s.check.starter = some q then (s.eventsAt q).raise flagCheck else s.eventsAt q

theorem State.checkSettled_eventsAt (s : State) (q : PortId) :
    (s.FailedAndMapped q → s.checkSettled.eventsAt q = (s.checkRaised q).raise flagPage) ∧
      (¬s.FailedAndMapped q → s.checkSettled.eventsAt q = s.checkRaised q) := by
  have checked : (s.closeCheck.raiseAt s.closeCheck.check.startedAt flagCheck).eventsAt q = s.checkRaised q := by
    rw [State.raiseAt_eventsAt, State.closeCheck_eventsAt]
    exact if_congr (s.closeCheck_startedAt q) rfl rfl
  rw [← s.closeCheck_mapsFailed q, State.checkSettled, State.raiseAt_eventsAt, checked]
  exact ⟨fun h => if_pos h, fun h => if_neg h⟩

/-- Settles O50: record, marks and events as steps 1 to 6 of R154 leave them, and the service pass of step 7. -/
theorem checkEndSettlesResultsAndRaisesEvents : Obligations.CheckEndSettlesResultsAndRaisesEvents := by
  intro s
  refine ⟨s.checkSettled, s.endCheck_eq, ?_, ?_, ?_, s.checkSettled_heldMark, s.checkSettled_eventsAt⟩
  · have frame := s.checkSettled_eq
    rw [s.check.ended_eq] at frame
    rw [s.checkSettled_check]
    exact frame
  · rw [s.checkSettled_check]
    rfl
  · rw [s.checkSettled_check]
    exact s.check.settleResults_results

end Sys2Proof.Machine
end

section
/-! PROOFS. START_CHECK (R145, R146) and ABORT_CHECK (R152, R155). -/

namespace Sys2Proof.Machine

/-! ### START_CHECK -/

/-- A selected page is in use: a port with an active context maps it (R145). -/
def State.SelectsUsedPage (s : State) (pages : PageSet) : Prop :=
  ∃ g x l, pages.getLsbD g.val = true ∧ s.mapLocked x = true ∧ (s.entry x l).page = g ∧ (s.entry x l).access ≠ .absent

theorem State.any_pageInUse_iff (s : State) (pages : PageSet) :
    ((List.finRange 64).any fun g => pages.getLsbD g.val && s.pageInUse g) = true ↔ s.SelectsUsedPage pages := by
  simp only [State.SelectsUsedPage, State.pageInUse, List.any_eq_true, List.mem_finRange, true_and, Bool.and_eq_true,
    State.mapsPage_iff, exists_and_left]

/-- The checks of R145: the level, the pages, a RUNNING check, a selected page in use. -/
theorem checkStart_outcomes (p : PortId) (pages : PageSet) (s : State) :
    (1 < s.level p → checkStart p pages s = some .denied) ∧
    (s.level p ≤ 1 →
      (pages = 0 → checkStart p pages s = some .param) ∧
      (pages ≠ 0 →
        (s.check.state = .running → checkStart p pages s = some .busy) ∧
        (s.check.state ≠ .running →
          (s.SelectsUsedPage pages → checkStart p pages s = some .pageInUse) ∧
          (¬s.SelectsUsedPage pages → checkStart p pages s = none)))) := by
  unfold checkStart
  refine ⟨fun hlevel => if_pos hlevel, fun hlevel => ?_⟩
  rw [if_neg (not_lt.mpr hlevel)]
  refine ⟨fun hnone => if_pos hnone, fun hpages => ?_⟩
  rw [if_neg hpages]
  refine ⟨fun hbusy => if_pos hbusy, fun hidle => ?_⟩
  rw [if_neg hidle, ← s.any_pageInUse_iff]
  exact ⟨fun hused => if_pos hused, fun hfree => if_neg hfree⟩

/-- START_CHECK, by what `checkStart` finds and by OFFLINE (R146). -/
theorem exec_startCheck {p : PortId} {pages : PageSet} {q : StepRequest} {s : State} (htakes : s.takes p) :
    (∀ st, checkStart p pages s = some st →
      exec (.startCheck p pages q) s = .next (s.answer p 0x60 st [])) ∧
    (checkStart p pages s = none →
      (s.offline = false →
        exec (.startCheck p pages q) s = .next ((s.acceptCheck p pages q).answer p 0x60 .ok [])) ∧
      (s.offline = true →
        exec (.startCheck p pages q) s = .next ((s.acceptCheck p pages q).endCheck.answer p 0x60 .ok []))) := by
  have run : exec (.startCheck p pages q) s = .next (takeStartCheck p pages q s) := exec_of_takes rfl htakes
  refine ⟨fun st hst => ?_, fun hnone => ?_⟩
  · rw [run, takeStartCheck, hst]
    rfl
  · rw [run, takeStartCheck, hnone]
    exact ⟨fun hworks => by simp [hworks], fun hoffline => by simp [hoffline]⟩

/-- The acceptance of a check writes the check record and the marks only (R146). -/
theorem State.acceptCheck_eq (s : State) (p : PortId) (pages : PageSet) (q : StepRequest) :
    s.acceptCheck p pages q =
      { s with check := acceptedRecord p pages q s.offline, heldMarks := (s.acceptCheck p pages q).heldMarks } := rfl

/-- A record just accepted ends with its results as they stand: no reference test has passed. -/
theorem acceptedRecord_ended (p : PortId) (pages : PageSet) (q : StepRequest) (offline : Bool) :
    (acceptedRecord p pages q offline).ended =
      { acceptedRecord p pages q offline with state := .ended, current := .none } := by
  rw [CheckRecord.ended_of_stands (Or.inr (Option.some_ne_none _).symm)]
  rfl

/-- No page of a check just accepted has failed. -/
theorem State.acceptCheck_not_failedAndMapped (s : State) (p : PortId) (pages : PageSet) (q : StepRequest)
    (x : PortId) : ¬(s.acceptCheck p pages q).FailedAndMapped x := by
  rintro ⟨g, l, hfailed, -⟩
  rw [State.acceptCheck_check, acceptedRecord, ofFn_get] at hfailed
  split at hfailed <;> simp at hfailed

/-- A check that ends at its acceptance raises CHECK at its starter, and nothing else (R146, R154). -/
theorem State.acceptCheck_settled_eventsAt (s : State) (p : PortId) (pages : PageSet) (q : StepRequest) (x : PortId) :
    (s.acceptCheck p pages q).checkSettled.eventsAt x =
      if x = p then (s.eventsAt x).raise flagCheck else s.eventsAt x := by
  obtain ⟨-, checked⟩ := (s.acceptCheck p pages q).checkSettled_eventsAt x
  rw [checked (s.acceptCheck_not_failedAndMapped p pages q x)]
  have events : (s.acceptCheck p pages q).eventsAt x = s.eventsAt x := by
    unfold State.acceptCheck State.eventsAt
    rfl
  have starter : (s.acceptCheck p pages q).check.starter = some x ↔ x = p := by
    rw [State.acceptCheck_check]
    exact Option.some_inj.trans eq_comm
  rw [State.checkRaised, events]
  exact if_congr starter rfl rfl

theorem State.acceptCheck_settled_eq (s : State) (p : PortId) (pages : PageSet) (q : StepRequest) :
    (s.acceptCheck p pages q).checkSettled =
      { s with
        check := (s.acceptCheck p pages q).checkSettled.check
        heldMarks := (s.acceptCheck p pages q).checkSettled.heldMarks
        events := (s.acceptCheck p pages q).checkSettled.events } := by
  have frame := (s.acceptCheck p pages q).checkSettled_eq
  rw [← State.checkSettled_check] at frame
  unfold State.acceptCheck at frame ⊢
  exact frame

/-- Pages held by an acceptance and freed by its end: the marks of the selected pages are clear. -/
theorem State.acceptCheck_settled_heldMark (s : State) (p : PortId) (pages : PageSet) (q : StepRequest)
    (g : PhysicalPage) :
    (s.acceptCheck p pages q).checkSettled.heldMark g = (s.heldMark g && !pages.getLsbD g.val) := by
  rw [State.checkSettled_heldMark, State.acceptCheck_heldMark, State.acceptCheck_check]
  show ((s.heldMark g || pages.getLsbD g.val) && !pages.getLsbD g.val) = _
  cases pages.getLsbD g.val <;> simp

/-- Settles O31: the refusals of R145 in their order, and the acceptance of R146 with OFFLINE clear and set. -/
theorem startCheckHoldsTheSelectedPages : Obligations.StartCheckHoldsTheSelectedPages := by
  intro p pages q s htakes run inUse record
  obtain ⟨refused, accepted⟩ := exec_startCheck (pages := pages) (q := q) htakes
  obtain ⟨denied, allowed⟩ := checkStart_outcomes p pages s
  refine ⟨fun hlevel => refused _ (denied hlevel), fun hlevel hnone => ?_, fun hlevel hpages hbusy => ?_,
    fun hlevel hpages hidle => ?_⟩
  · obtain ⟨param, -⟩ := allowed hlevel
    exact refused _ (param hnone)
  · obtain ⟨-, selects⟩ := allowed hlevel
    obtain ⟨busy, -⟩ := selects hpages
    exact refused _ (busy hbusy)
  · obtain ⟨-, selects⟩ := allowed hlevel
    obtain ⟨-, idle⟩ := selects hpages
    obtain ⟨used, free⟩ := idle hidle
    refine ⟨fun hused => refused _ (used hused), fun hfree hworks => ?_, fun hfree hoffline => ?_⟩
    · obtain ⟨starts, -⟩ := accepted (free hfree)
      refine ⟨(s.acceptCheck p pages q).heldMarks, ?_, s.acceptCheck_heldMark p pages q⟩
      have accepts := s.acceptCheck_eq p pages q
      have recorded : acceptedRecord p pages q s.offline = record := by
        rw [hworks]
        rfl
      rw [recorded] at accepts
      exact (starts hworks).trans (congrArg (fun t : State => Host.Outcome.next (t.answer p 0x60 .ok [])) accepts)
    · obtain ⟨-, ends⟩ := accepted (free hfree)
      refine ⟨(s.acceptCheck p pages q).checkSettled, ?_, s.acceptCheck_settled_eq p pages q, ?_,
        s.acceptCheck_settled_heldMark p pages q, s.acceptCheck_settled_eventsAt p pages q⟩
      · rw [← State.endCheck_eq]
        exact ends hoffline
      · rw [State.checkSettled_check, State.acceptCheck_check, acceptedRecord_ended, hoffline]
        rfl

/-! ### ABORT_CHECK -/

/-- The checks of R155: the level, then a RUNNING check. -/
theorem checkAbort_outcomes (p : PortId) (s : State) :
    (1 < s.level p → checkAbort p s = some .denied) ∧
    (s.level p ≤ 1 →
      (s.check.state ≠ .running → checkAbort p s = some .state) ∧
      (s.check.state = .running → checkAbort p s = none)) := by
  unfold checkAbort
  refine ⟨fun hlevel => if_pos hlevel, fun hlevel => ?_⟩
  rw [if_neg (not_lt.mpr hlevel)]
  exact ⟨fun hidle => if_pos hidle, fun hrun => if_neg (not_not_intro hrun)⟩

/-- ABORT_CHECK, by what `checkAbort` finds (R155). -/
theorem exec_abortCheck {p : PortId} {s : State} (htakes : s.takes p) :
    (∀ st, checkAbort p s = some st → exec (.abortCheck p) s = .next (s.answer p 0x61 st [])) ∧
    (checkAbort p s = none → exec (.abortCheck p) s = .next (s.abortCheck.answer p 0x61 .ok [])) := by
  have run : exec (.abortCheck p) s = .next (takeAbortCheck p s) := exec_of_takes rfl htakes
  refine ⟨fun st hst => ?_, fun hnone => ?_⟩
  · rw [run, takeAbortCheck, hst]
    rfl
  · rw [run, takeAbortCheck, hnone]

/-- A word lies in the page, or in a page of the pair, under test. -/
def State.UnderTest (s : State) (a : Nat) : Prop :=
  (∃ g, s.check.current = .page g ∧ inPage g a = true) ∨
    ∃ g h, s.check.current = .pair g h ∧ (inPage g a = true ∨ inPage h a = true)

theorem State.zeroUnderTest_eq (s : State) : s.zeroUnderTest = { s with words := s.zeroUnderTest.words } := by
  unfold State.zeroUnderTest
  split <;> rfl

theorem Memory.read_zeroPages (m : Memory) (g h : PhysicalPage) (a : Nat) :
    ((m.zeroPage g).zeroPage h).read a = if inPage g a ∨ inPage h a then 0 else m.read a := by
  rw [Memory.read_zeroPage, Memory.read_zeroPage]
  by_cases hg : inPage g a = true <;> by_cases hh : inPage h a = true <;> simp [hg, hh]

/-- The words of the page or pair under test become 0, and no other word changes (R150, R151, R155). -/
theorem State.zeroUnderTest_read (s : State) (a : Nat) :
    (s.UnderTest a → s.zeroUnderTest.words.read a = 0) ∧
      (¬s.UnderTest a → s.zeroUnderTest.words.read a = s.words.read a) := by
  unfold State.zeroUnderTest State.UnderTest
  cases hcurrent : s.check.current with
  | none => simp
  | reference => simp
  | page g =>
    dsimp only
    rw [Memory.read_zeroPage]
    simp +contextual
  | pair g h =>
    dsimp only
    rw [Memory.read_zeroPages]
    simp +contextual

/-- What an abort leaves to the end of the check (R155). -/
def State.abandoned (s : State) : State :=
  s.zeroUnderTest.modCheck fun r => { r with omitted := r.notBegun, aborted := true }

theorem State.abortCheck_eq (s : State) : s.abortCheck = s.abandoned.checkSettled.servicePass :=
  s.abandoned.endCheck_eq

theorem State.abandoned_eq (s : State) :
    s.abandoned =
      { s with
        words := s.zeroUnderTest.words, check := { s.check with omitted := s.check.notBegun, aborted := true } } := by
  rw [State.abandoned, s.zeroUnderTest_eq]
  rfl

theorem State.abandoned_settled_eq (s : State) :
    s.abandoned.checkSettled =
      { s with
        words := s.zeroUnderTest.words
        check := s.abandoned.checkSettled.check
        heldMarks := s.abandoned.checkSettled.heldMarks
        events := s.abandoned.checkSettled.events } := by
  have frame := s.abandoned.checkSettled_eq
  rw [← State.checkSettled_check] at frame
  rw [s.abandoned_eq] at frame ⊢
  exact frame

theorem State.abandoned_settled_words (s : State) : s.abandoned.checkSettled.words = s.zeroUnderTest.words := by
  rw [s.abandoned_settled_eq]

theorem State.abandoned_settled_check (s : State) :
    s.abandoned.checkSettled.check =
      { s.check with state := .ended, aborted := true, omitted := s.check.notBegun } := by
  rw [State.checkSettled_check, CheckRecord.ended_of_stands (Or.inl rfl), s.abandoned_eq]
  rfl

/-- The steps that an abort omits are those selected whose tests come after the current one (R152). -/
theorem CheckRecord.notBegun_iff (r : CheckRecord) :
    (r.notBegun.reference = true ↔ r.current = .none ∧ r.steps.reference = true) ∧
    (r.notBegun.pattern = true ↔ (r.current = .none ∨ r.current = .reference) ∧ r.steps.pattern = true) ∧
    (r.notBegun.decode = true ↔ (∀ g h, r.current ≠ .pair g h) ∧ r.steps.decode = true) := by
  unfold CheckRecord.notBegun
  cases r.current <;> simp [noSteps]

/-- Settles O32: the refusals of R155 in their order, and the end of an aborted check. -/
theorem abortCheckEndsTheRunningCheck : Obligations.AbortCheckEndsTheRunningCheck := by
  intro p s htakes run tested failedAndMapped
  obtain ⟨refused, aborts⟩ := exec_abortCheck htakes
  obtain ⟨denied, allowed⟩ := checkAbort_outcomes p s
  refine ⟨fun hlevel => refused _ (denied hlevel), fun hlevel hidle => ?_, fun hlevel hrun => ?_⟩
  · obtain ⟨state, -⟩ := allowed hlevel
    exact refused _ (state hidle)
  · obtain ⟨-, ok⟩ := allowed hlevel
    obtain ⟨reference, pattern, decode⟩ := s.check.notBegun_iff
    have record := s.abandoned_settled_check
    have omitted : s.abandoned.checkSettled.check.omitted = s.check.notBegun := by rw [record]
    have settled := s.abandoned.checkSettled_eventsAt
    have marks := s.abandoned.checkSettled_heldMark
    refine ⟨s.abandoned.checkSettled, ?_, ?_, ?_, ?_, ?_, ?_, ?_, ?_, ?_⟩
    · rw [← s.abortCheck_eq]
      exact aborts (ok hrun)
    · rw [s.abandoned_settled_words]
      exact s.abandoned_settled_eq
    · rw [s.abandoned_settled_words]
      exact s.zeroUnderTest_read
    · rw [omitted, record]
    · rw [omitted]
      exact reference
    · rw [omitted]
      exact pattern
    · rw [omitted]
      exact decode
    · rw [s.abandoned_eq] at marks ⊢
      exact marks
    · rw [s.abandoned_eq] at settled ⊢
      exact settled

end Sys2Proof.Machine
end

section
/-! PROOFS. The completions of the reference, page and pair tests (R148 to R151), and the test that each begins. -/

namespace Sys2Proof.Machine

/-! ### The first of an ascending list -/

/-- In a list that ascends, a search finds the member that comes before every other one it could find. -/
theorem find?_eq_some_of_first {α : Type} {before : α → α → Prop} (hasymm : ∀ x y, before x y → ¬before y x)
    {l : List α} (hascends : l.Pairwise before) {p : α → Bool} {x : α} (hx : x ∈ l) (hpx : p x = true)
    (hfirst : ∀ y ∈ l, p y = true → y = x ∨ before x y) : l.find? p = some x := by
  obtain ⟨y, hy⟩ := Option.isSome_iff_exists.mp (List.find?_isSome.mpr ⟨x, hx, hpx⟩)
  obtain ⟨hpy, earlier, later, rfl, hearlier⟩ := List.find?_eq_some_iff_append.mp hy
  obtain rfl | hbefore := hfirst y (by simp) hpy
  · exact hy
  · have not_earlier : x ∉ earlier := fun h => by simpa [hpx] using hearlier x h
    obtain ⟨-, ascends, -⟩ := List.pairwise_append.mp hascends
    obtain h | h : x = y ∨ x ∈ later := by simpa [not_earlier] using hx
    · exact h ▸ hy
    · obtain ⟨follow, -⟩ := List.pairwise_cons.mp ascends
      exact absurd hbefore (hasymm y x (follow x h))

theorem pairAfter_iff (x y : PhysicalPage × PhysicalPage) :
    pairAfter x y = true ↔ x.1 < y.1 ∨ (x.1 = y.1 ∧ x.2 < y.2) := by
  simp [pairAfter]

theorem pairAfter_asymm (x y : PhysicalPage × PhysicalPage) (h : pairAfter x y = true) : ¬pairAfter y x = true := by
  simp only [pairAfter_iff, Fin.lt_def, Fin.ext_iff] at h ⊢
  omega

/-- The least pair of eligible pages that a search allows is the one it finds. -/
theorem State.find?_eligiblePairs {s : State} {p : PhysicalPage × PhysicalPage → Bool} {x y : PhysicalPage}
    (hx : s.eligible x = true) (hy : s.eligible y = true) (hlt : x < y) (hp : p (x, y) = true)
    (hleast : ∀ x' y', s.eligible x' = true → s.eligible y' = true → x' < y' → p (x', y') = true →
      x < x' ∨ (x = x' ∧ y ≤ y')) :
    s.eligiblePairs.find? p = some (x, y) := by
  have member : (x, y) ∈ s.eligiblePairs := (s.mem_eligiblePairs x y).mpr ⟨hx, hy, hlt⟩
  refine find?_eq_some_of_first pairAfter_asymm s.eligiblePairs_ascend member hp ?_
  rintro ⟨x', y'⟩ hmem hp'
  obtain ⟨hx', hy', hlt'⟩ := (s.mem_eligiblePairs x' y').mp hmem
  have least := hleast x' y' hx' hy' hlt' hp'
  simp only [pairAfter_iff, Prod.mk.injEq, Fin.lt_def, Fin.le_def, Fin.ext_iff] at least ⊢
  omega

/-! ### Where DECODE begins and goes on (R151) -/

theorem State.beginDecode_eq (s : State) : s.beginDecode = s.takePair (s.eligiblePairs.find? fun _ => true) := by
  rw [State.beginDecode]
  cases s.eligiblePairs <;> rfl

/-- DECODE begins with the least pair of eligible pages. -/
theorem State.beginDecode_first {s : State} {x y : PhysicalPage} (hx : s.eligible x = true) (hy : s.eligible y = true)
    (hlt : x < y)
    (hleast : ∀ x' y', s.eligible x' = true → s.eligible y' = true → x' < y' → x < x' ∨ (x = x' ∧ y ≤ y')) :
    s.beginDecode = { s with check := { s.check with current := .pair x y } } := by
  rw [State.beginDecode_eq, State.find?_eligiblePairs hx hy hlt rfl fun x' y' hx' hy' hlt' _ =>
    hleast x' y' hx' hy' hlt']
  rfl

/-- With fewer than two eligible pages, DECODE ends the check at once. -/
theorem State.beginDecode_none {s : State} (h : ∀ x y, s.eligible x = true → s.eligible y = true → x = y) :
    s.beginDecode = s.endCheck := by
  rw [State.beginDecode, s.eligiblePairs_eq_nil h]
  rfl

/-- DECODE goes on with the least pair of eligible pages after the one just completed. -/
theorem State.nextPair_first {s : State} {a b x y : PhysicalPage} (hx : s.eligible x = true) (hy : s.eligible y = true)
    (hlt : x < y) (hafter : a < x ∨ (a = x ∧ b < y))
    (hleast : ∀ x' y', s.eligible x' = true → s.eligible y' = true → x' < y' → (a < x' ∨ (a = x' ∧ b < y')) →
      x < x' ∨ (x = x' ∧ y ≤ y')) :
    s.nextPair (a, b) = { s with check := { s.check with current := .pair x y } } := by
  rw [State.nextPair, State.find?_eligiblePairs hx hy hlt ((pairAfter_iff ..).mpr hafter) fun x' y' hx' hy' hlt' hp =>
    hleast x' y' hx' hy' hlt' ((pairAfter_iff ..).mp hp)]
  rfl

/-- With no pair of eligible pages after the one just completed, the check ends. -/
theorem State.nextPair_none {s : State} {a b : PhysicalPage}
    (h : ∀ x y, s.eligible x = true → s.eligible y = true → x < y → ¬(a < x ∨ (a = x ∧ b < y))) :
    s.nextPair (a, b) = s.endCheck := by
  have none_later : s.eligiblePairs.find? (pairAfter (a, b)) = none := by
    refine List.find?_eq_none.mpr ?_
    rintro ⟨x, y⟩ hmem
    obtain ⟨hx, hy, hlt⟩ := (s.mem_eligiblePairs x y).mp hmem
    rw [pairAfter_iff]
    exact h x y hx hy hlt
  rw [State.nextPair, none_later]
  rfl

/-! ### Where PATTERN goes on (R150) -/

/-- The first page still NOT_REACHED is tested next. -/
theorem State.nextPageTest_first {s : State} {h : PhysicalPage} (hresult : s.check.results[h] = some .notReached)
    (hfirst : ∀ j : PhysicalPage, j < h → s.check.results[j] ≠ some .notReached) :
    s.nextPageTest = { s with check := { s.check with current := .page h } } := by
  have found : (List.finRange 64).find? (fun g => s.check.results[g] = some .notReached) = some h := by
    refine find?_eq_some_of_first (fun x y => lt_asymm) (List.pairwise_lt_finRange 64) (List.mem_finRange h)
      (decide_eq_true hresult) fun j _ hj => ?_
    have not_before : ¬j < h := fun hlt => hfirst j hlt (of_decide_eq_true hj)
    omega
  rw [State.nextPageTest, found]
  rfl

/-- With no page NOT_REACHED the next step begins, or the check ends. -/
theorem State.nextPageTest_last {s : State} (h : ∀ g : PhysicalPage, s.check.results[g] ≠ some .notReached) :
    s.nextPageTest = s.afterPattern := by
  have none_left : (List.finRange 64).find? (fun g => s.check.results[g] = some .notReached) = none :=
    List.find?_eq_none.mpr fun g _ => by simpa using h g
  rw [State.nextPageTest, none_left]

theorem State.afterPattern_outcomes (s : State) :
    (s.check.steps.decode = true → s.afterPattern = s.beginDecode) ∧
      (s.check.steps.decode = false → s.afterPattern = s.endCheck) := by
  unfold State.afterPattern
  exact ⟨fun hdecode => if_pos hdecode, fun hno => if_neg (by simp [hno])⟩

/-! ### The reference test (R148, R149) -/

theorem exec_referenceTestComplete {s : State} (hphase : s.phase = .operating) (o : TestOutcome) :
    exec (.referenceTestComplete o) s = .next (s.completeReference o) :=
  whenOperating_of_operating hphase fun s => s.completeReference o

theorem State.completeReference_outcomes {s : State} (hrun : s.check.state = .running)
    (hcurrent : s.check.current = .reference) :
    s.completeReference .pass = s.referencePassed ∧ s.completeReference .fail = s.referenceFailed := by
  unfold State.completeReference
  rw [hrun, hcurrent]
  exact ⟨rfl, rfl⟩

theorem State.completeReference_other {s : State} (h : s.check.state ≠ .running ∨ s.check.current ≠ .reference)
    (o : TestOutcome) : s.completeReference o = s := by
  unfold State.completeReference
  split
  · rename_i hrun hcurrent
    simp [hrun, hcurrent] at h
  · rename_i hrun hcurrent
    simp [hrun, hcurrent] at h
  · rfl

/-- A passed reference test before the next step: the result, and the faulted pages SKIPPED (R148, R149). -/
def State.skipFaulted (s : State) : State :=
  s.modCheck fun r =>
    { r with
      reference := some .pass
      results := Vector.ofFn fun g : PhysicalPage =>
        if r.selected.getLsbD g.val && s.carriesFault g then some .skipped else r.results[g] }

theorem State.referencePassed_eq (s : State) : s.referencePassed = s.skipFaulted.afterReference := rfl

theorem State.skipFaulted_eq (s : State) :
    s.skipFaulted =
      { s with check := { s.check with reference := some .pass, results := s.skipFaulted.check.results } } := rfl

theorem State.skipFaulted_results (s : State) (g : PhysicalPage) :
    s.skipFaulted.check.results[g] =
      if s.check.selected.getLsbD g.val = true ∧ s.carriesFault g = true then some .skipped else s.check.results[g] :=
  (ofFn_get ..).trans (if_congr Bool.and_eq_true_iff rfl rfl)

/-- PATTERN, DECODE or the end of the check follows a passed reference test, by the steps selected (R149). -/
theorem State.afterReference_outcomes (s : State) :
    (s.check.steps.pattern = true → s.afterReference = s.nextPageTest) ∧
      (s.check.steps.pattern = false → s.afterReference = s.afterPattern) := by
  unfold State.afterReference
  exact ⟨fun hpattern => if_pos hpattern, fun hno => if_neg (by simp [hno])⟩

/-- Settles O48: each outcome of the reference test, no effect without one, and the two ways DECODE begins. -/
theorem referenceTestSettlesTheNextStep : Obligations.ReferenceTestSettlesTheNextStep := by
  refine ⟨fun s hphase => ⟨fun hrun hcurrent => ?_, fun hother o => ?_⟩, ?_⟩
  · have completes := exec_referenceTestComplete hphase
    obtain ⟨passes, fails⟩ := State.completeReference_outcomes hrun hcurrent
    have passed : exec (.referenceTestComplete .pass) s = .next s.skipFaulted.afterReference := by
      rw [completes, passes, State.referencePassed_eq]
    obtain ⟨pattern, noPattern⟩ := s.skipFaulted.afterReference_outcomes
    obtain ⟨decode, noDecode⟩ := s.skipFaulted.afterPattern_outcomes
    refine ⟨?_, s.skipFaulted, s.skipFaulted_eq, s.skipFaulted_results, fun hpattern => ?_, fun hno hdecode => ?_,
      fun hno hnoDecode => ?_⟩
    · rw [completes, fails]
      rfl
    · rw [passed, pattern hpattern]
    · rw [passed, noPattern hno, decode hdecode]
    · rw [passed, noPattern hno, noDecode hnoDecode]
  · rw [exec_referenceTestComplete hphase, State.completeReference_other hother]
  · intro r good
    have good_iff (h : PhysicalPage) : good h ↔ r.eligible h = true := (r.eligible_iff h).symm
    simp only [good_iff]
    exact ⟨fun x y hx hy hlt hleast => State.beginDecode_first hx hy hlt hleast, State.beginDecode_none⟩

/-! ### The judgement of a page test (R150) -/

theorem exec_pageTestComplete {s : State} (hphase : s.phase = .operating) (hrun : s.check.state = .running)
    {g : PhysicalPage} (hcurrent : s.check.current = .page g) (o : TestOutcome) :
    exec (.pageTestComplete o) s = .next (s.judgePage g o).nextPageTest := by
  have completes : s.completePage o = (s.judgePage g o).nextPageTest := by rw [State.completePage, hrun, hcurrent]
  rw [← completes]
  exact whenOperating_of_operating hphase fun s => s.completePage o

theorem State.judgePage_eq (s : State) (g : PhysicalPage) (o : TestOutcome) :
    s.judgePage g o =
      { s with
        words := (s.judgePage g o).words, faults := (s.judgePage g o).faults
        check := { s.check with results := (s.judgePage g o).check.results } } := by
  cases o <;> rfl

theorem State.judgePage_read (s : State) (g : PhysicalPage) (o : TestOutcome) (a : Nat) :
    (s.judgePage g o).words.read a = if inPage g a then 0 else s.words.read a := by
  have zeroed : (s.judgePage g o).words = s.words.zeroPage g := by cases o <;> rfl
  rw [zeroed, Memory.read_zeroPage]

theorem State.judgePage_faultsOf (s : State) (g : PhysicalPage) (o : TestOutcome) (h : PhysicalPage) :
    (s.judgePage g o).faultsOf h =
      if h = g ∧ o = .fail then { s.faultsOf h with pattern := true } else s.faultsOf h := by
  cases o with
  | pass => simp [State.judgePage, State.faultsOf]
  | fail =>
    rw [State.judgePage, State.modCheck_faultsOf, State.modFaults_faultsOf]
    by_cases hg : h = g
    · subst hg
      simp [State.faultsOf]
    · simp [hg, State.faultsOf]

theorem State.judgePage_results (s : State) (g : PhysicalPage) (o : TestOutcome) (h : PhysicalPage) :
    (s.judgePage g o).check.results[h] =
      if h = g then some (if o = .pass then .pass else .failPattern) else s.check.results[h] := by
  cases o <;> exact update_get ..

/-! ### The judgement of a pair test (R151) -/

theorem exec_pairTestComplete {s : State} (hphase : s.phase = .operating) (hrun : s.check.state = .running)
    {a b : PhysicalPage} (hcurrent : s.check.current = .pair a b) (o : TestOutcome) :
    exec (.pairTestComplete o) s = .next ((s.judgePair a b o).nextPair (a, b)) := by
  have completes : s.completePair o = (s.judgePair a b o).nextPair (a, b) := by rw [State.completePair, hrun, hcurrent]
  rw [← completes]
  exact whenOperating_of_operating hphase fun s => s.completePair o

theorem State.judgePair_eq (s : State) (a b : PhysicalPage) (o : TestOutcome) :
    s.judgePair a b o =
      { s with
        words := (s.judgePair a b o).words, faults := (s.judgePair a b o).faults
        check := { s.check with results := (s.judgePair a b o).check.results } } := by
  cases o <;> rfl

theorem State.judgePair_read (s : State) (a b : PhysicalPage) (o : TestOutcome) (x : Nat) :
    (s.judgePair a b o).words.read x = if inPage a x ∨ inPage b x then 0 else s.words.read x := by
  have zeroed : (s.judgePair a b o).words = (s.words.zeroPage a).zeroPage b := by cases o <;> rfl
  rw [zeroed, Memory.read_zeroPages]

theorem State.judgePair_faultsOf (s : State) (a b : PhysicalPage) (o : TestOutcome) (h : PhysicalPage) :
    (s.judgePair a b o).faultsOf h =
      if (h = a ∨ h = b) ∧ o = .fail then { s.faultsOf h with decode := true } else s.faultsOf h := by
  cases o with
  | pass => simp [State.judgePair, State.faultsOf]
  | fail =>
    rw [State.judgePair, State.modCheck_faultsOf, State.modFaults_faultsOf, State.modFaults_faultsOf,
      State.modFaults_faultsOf]
    by_cases hb : h = b
    · subst hb
      by_cases ha : h = a <;> simp [ha, State.faultsOf]
    · by_cases ha : h = a
      · subst ha
        simp [hb, State.faultsOf]
      · simp [ha, hb, State.faultsOf]

theorem State.judgePair_results (s : State) (a b : PhysicalPage) (o : TestOutcome) (h : PhysicalPage) :
    (s.judgePair a b o).check.results[h] =
      if (h = a ∨ h = b) ∧ o = .fail then some .failDecode else s.check.results[h] := by
  cases o with
  | pass => exact (if_neg (by simp)).symm
  | fail =>
    show (update (update s.check.results a (some .failDecode)) b (some .failDecode))[h] = _
    rw [update_get, update_get]
    by_cases hb : h = b
    · simp [hb]
    · simp [hb]

/-- Settles O49: the pages judged and zero-filled, and the test that follows or the end of the check. -/
theorem pageAndPairTestsJudgeAndZeroFill : Obligations.PageAndPairTestsJudgeAndZeroFill := by
  intro s o hphase hrun
  refine ⟨fun g hcurrent => ?_, fun a b hcurrent => ?_⟩
  · have completes := exec_pageTestComplete hphase hrun hcurrent o
    have frame := s.judgePage_eq g o
    have selected : (s.judgePage g o).check.selected = s.check.selected := by rw [frame]
    have steps : (s.judgePage g o).check.steps = s.check.steps := by rw [frame]
    obtain ⟨decode, noDecode⟩ := (s.judgePage g o).afterPattern_outcomes
    rw [steps] at decode noDecode
    refine ⟨s.judgePage g o, frame, s.judgePage_read g o, s.judgePage_faultsOf g o, s.judgePage_results g o,
      fun h hresult hfirst => ?_, ?_⟩
    · rw [completes, State.nextPageTest_first hresult hfirst]
    · intro hlast good
      have good_iff (h : PhysicalPage) : good h ↔ (s.judgePage g o).eligible h = true := by
        rw [State.eligible_iff, selected]
      simp only [good_iff]
      rw [State.nextPageTest_last hlast] at completes
      refine ⟨fun hdecode => ⟨fun x y hx hy hlt hleast => ?_, fun hfew => ?_⟩, fun hno => ?_⟩
      · rw [completes, decode hdecode, State.beginDecode_first hx hy hlt hleast]
      · rw [completes, decode hdecode, State.beginDecode_none hfew]
      · rw [completes, noDecode hno]
  · have completes := exec_pairTestComplete hphase hrun hcurrent o
    have frame := s.judgePair_eq a b o
    have selected : (s.judgePair a b o).check.selected = s.check.selected := by rw [frame]
    refine ⟨s.judgePair a b o, frame, s.judgePair_read a b o, s.judgePair_faultsOf a b o, s.judgePair_results a b o, ?_⟩
    intro good later
    have later_iff (x y : PhysicalPage) :
        later x y ↔ (s.judgePair a b o).eligible x = true ∧ (s.judgePair a b o).eligible y = true ∧ x < y ∧
          (a < x ∨ (a = x ∧ b < y)) := by
      rw [State.eligible_iff, State.eligible_iff, selected]
    simp only [later_iff]
    refine ⟨fun x y hlater hleast => ?_, fun hnone => ?_⟩
    · obtain ⟨hx, hy, hlt, hafter⟩ := hlater
      rw [completes, State.nextPair_first hx hy hlt hafter fun x' y' hx' hy' hlt' hafter' =>
        hleast x' y' ⟨hx', hy', hlt', hafter'⟩]
    · rw [completes, State.nextPair_none fun x y hx hy hlt hafter => hnone x y ⟨hx, hy, hlt, hafter⟩]

end Sys2Proof.Machine
end

section
/-! PROOFS. Responses (R161, R168), and the port commands ECHO (R170), SET_PORT (R171) and
DEVICE_RESTART (R175, R176). -/

namespace Sys2Proof.Machine

/-! ### Responses (R161, R167, R168) -/

theorem Response.length_frame (r : Response) : r.frame.length = 4 + r.results.length := by
  rw [Response.frame, Laws.length_closeFrame, List.length_cons, List.length_cons]
  omega

/-- A response frame begins with its length, the code echoed and the status (R161). -/
theorem Response.take_frame (r : Response) :
    r.frame.take 3 = [byteOfNat (4 + r.results.length), r.code, r.status.toByte] := by
  have begins : r.frame.take 3 =
      [byteOfNat ((r.code :: r.status.toByte :: r.results).length + 2), r.code, r.status.toByte] := rfl
  rw [begins, List.length_cons, List.length_cons, Nat.add_comm 4]

/-- Settles O5: the answer rewrites one port, by `Port.respond`, and a response frame is four bytes and its results. -/
theorem answerReplacesPendingResponse : Obligations.AnswerReplacesPendingResponse := by
  intro s p code st rs
  refine ⟨rfl, fun q hq => ?_, ?_, fun _ => ⟨Response.length_frame _, Response.take_frame _⟩⟩
  · rw [State.answer_port, if_neg hq]
  · rw [State.answer_port, if_pos rfl]
    rfl

/-! ### ECHO and SET_PORT (R170, R171) -/

theorem takeEcho_of_fits {data : List Byte} (hlow : 1 ≤ data.length) (hhigh : data.length ≤ 250) (p : PortId)
    (s : State) : takeEcho p data s = s.answer p 0x01 .ok data :=
  if_neg (by omega)

theorem takeEcho_of_misfit {data : List Byte} (h : data.length = 0 ∨ 250 < data.length) (p : PortId) (s : State) :
    takeEcho p data s = s.answer p 0x01 .param [] :=
  if_pos (by omega)

/-- Settles O6: the two outcomes of `takeEcho`, and the length of a response frame. -/
theorem echoReturnsItsData : Obligations.EchoReturnsItsData := by
  intro p data s htakes
  have run : exec (.echo p data) s = .next (takeEcho p data s) := exec_of_takes rfl htakes
  refine ⟨fun ⟨hlow, hhigh⟩ => ⟨?_, Response.length_frame _⟩, fun hmisfit => ?_⟩
  · rw [run, takeEcho_of_fits hlow hhigh]
  · rw [run, takeEcho_of_misfit hmisfit]

/-- Settles O7: the command is taken, and its effect is the timeout and then the answer. -/
theorem setPortSetsReceiveTimeout : Obligations.SetPortSetsReceiveTimeout := by
  intro p timeout s htakes
  exact exec_of_takes (i := .setPort p timeout) rfl htakes

/-! ### DEVICE_RESTART (R175, R176) -/

/-- A RUNNING check is dropped with the words under test zero-filled; no other check leaves a trace (R158). -/
theorem State.dropCheck_eq (s : State) : s.dropCheck = { s with words := s.dropCheck.words } := by
  unfold State.dropCheck
  split
  · exact s.zeroUnderTest_eq
  · rfl
  · rfl

theorem State.dropCheck_read (s : State) (a : Nat) :
    (s.check.state = .running ∧ s.UnderTest a → s.dropCheck.words.read a = 0) ∧
      (¬(s.check.state = .running ∧ s.UnderTest a) → s.dropCheck.words.read a = s.words.read a) := by
  obtain ⟨zeroed, kept⟩ := s.zeroUnderTest_read a
  unfold State.dropCheck
  cases hstate : s.check.state with
  | running => exact ⟨fun ⟨_, hunder⟩ => zeroed hunder, fun hnot => kept fun hunder => hnot ⟨rfl, hunder⟩⟩
  | idle => exact ⟨nofun, fun _ => rfl⟩
  | ended => exact ⟨nofun, fun _ => rfl⟩

/-- The restart leaves every block as after reset but the phase, the words, the fault sets, OFFLINE, the pins, the queue
and the ports. -/
theorem State.restart_eq (s : State) (p : PortId) :
    s.restart p = { State.reset with
      phase := s.phase, faults := s.faults, offline := s.offline, pins := s.pins, pending := s.pending
      words := s.dropCheck.words, ports := (s.restart p).ports } := by
  unfold State.restart
  rw [s.dropCheck_eq]
  rfl

/-- Settles O10: the refusal, the blocks that the restart returns to their defaults, the words it keeps, and the ports
by `Port.resetBySelf` and `Port.resetByOther`. -/
theorem deviceRestartKeepsWordsFaultsAndLevels : Obligations.DeviceRestartKeepsWordsFaultsAndLevels := by
  intro p s htakes
  have run : exec (.deviceRestart p) s = .next (takeDeviceRestart p s) := exec_of_takes rfl htakes
  refine ⟨fun hlevel => ?_, fun hlevel => ?_⟩
  · rw [run, takeDeviceRestart, if_pos hlevel]
    rfl
  · have words : (s.restart p).words = s.dropCheck.words := by rw [s.restart_eq p]
    refine ⟨s.restart p, ?_, ?_, fun a => ?_, fun q hq => ?_, ?_⟩
    · rw [run, takeDeviceRestart, if_neg (not_not_intro hlevel)]
    · rw [words]
      exact s.restart_eq p
    · obtain ⟨zeroed, kept⟩ := s.dropCheck_read a
      rw [words]
      split
      · next hunder => exact zeroed hunder
      · next hnot => exact kept hnot
    · rw [State.restart_port, if_neg hq]
      rfl
    · rw [State.restart_port, if_pos rfl]
      rfl

end Sys2Proof.Machine
end

section
/-! PROOFS. Command frames: the frame of a command is read as the command (R166, R188), a closed frame passes its check
(R162), and each layout of 11.1 admits its lengths alone (R187). -/

namespace Sys2Proof.Machine

/-! ### Closed frames (R161, R162) -/

/-- The bytes between the code and the check byte of a closed frame are what it was closed over. -/
theorem closeFrame_params (code : Byte) (params : List Byte) :
    ((closeFrame (code :: params)).drop 2).dropLast = params := by
  have dropped : (closeFrame (code :: params)).drop 2 =
      params ++ [crc8 (byteOfNat ((code :: params).length + 2) :: code :: params)] := rfl
  rw [dropped, List.dropLast_concat]

/-- A closed frame is read by its code and its parameters. -/
theorem decodeFrame_closeFrame (p : PortId) (code : Byte) (params : List Byte) :
    decodeFrame p (closeFrame (code :: params)) = readCommand p code params := by
  have passes : crc8 (closeFrame (code :: params)) = 0x00#8 := crc8_closeFrame _
  rw [decodeFrame, if_neg (not_not_intro passes), closeFrame_params]
  rfl

/-! ### Reading a command back (R188) -/

/-- The parameters of a command are read as the command, whatever the values of its operands. -/
theorem readCommand_params {i : Instr} {p : PortId} (hp : i.commandPort = some p) :
    readCommand p i.code i.params = .ok i := by
  cases i with
  | echo | setPort | portReset | deviceRestart | readMap | translate | readWords | readPageFaults | readContext
  | clearContext | freeContext | readGate | invoke | hold | resume | abort | readRun | clearLine | readLines
  | abortCheck | readCheck | readEvents | clearEvents | setAttention | readCompletions => cases hp; rfl
  | writeMap q entries =>
    cases hp
    show orLength ((parseEntries (entries.flatMap MapFields.bytes)).map (.writeMap p)) = _
    rw [parseEntries_bytes]
    rfl
  | writeWords q page offset count words =>
    cases hp
    show orLength ((parseWords (words.flatMap bytes32)).map (.writeWords p page offset count)) = _
    rw [parseWords_bytes]
    rfl
  | clearFaults q pages kinds clearOffline =>
    cases hp
    have fields := congr (congrArg (Instr.clearFaults p) (pageSetOf_bytes pages)) (faultSetOf_toByte kinds)
    exact congrArg Except.ok (congr fields (yes_boolByte clearOffline))
  | defineContext q slot block =>
    cases hp
    show orLength ((parseBlockFields block.bytes).map (.defineContext p slot)) = _
    rw [parseBlockFields_bytes]
    rfl
  | setParams q slot block =>
    cases hp
    show orLength ((parseBlockFields block.bytes).map (.setParams p slot)) = _
    rw [parseBlockFields_bytes]
    rfl
  | writeGate q gate present f =>
    cases hp
    show Except.ok (Instr.writeGate p gate (yes (boolByte present))
      ⟨f.kind, f.context, f.level, yes (boolByte f.linePermitted)⟩) = _
    rw [yes_boolByte, yes_boolByte]
  | configLine q line f =>
    cases hp
    show Except.ok (Instr.configLine p line
      ⟨yes (boolByte f.enable), f.source, f.edge, f.debounce, f.validation, f.priority, f.gate, f.report⟩) = _
    rw [yes_boolByte]
  | setTimer q reload run =>
    cases hp
    exact congrArg Except.ok (congr (congrArg (Instr.setTimer p) (half_bytes reload)) (yes_boolByte run))
  | startCheck q pages request =>
    cases hp
    exact congrArg Except.ok
      (congr (congrArg (Instr.startCheck p) (pageSetOf_bytes pages)) (stepRequestOf_toByte request))
  | select | deselect | byteExchange | receiveTimerExpiry | dataRunWordAccess | elementStep | pinLevelChange
  | debounceExpiry | validationExpiry | intervalTimerExpiry | referenceTestComplete | pageTestComplete
  | pairTestComplete | powerOn | startupComplete | resetAssert | resetRelease | remainingCountFalls => cases hp

theorem decodeFrame_encodeFrame {i : Instr} {p : PortId} (hp : i.commandPort = some p) :
    decodeFrame p (encodeFrame i) = .ok i := by
  rw [encodeFrame, decodeFrame_closeFrame, readCommand_params hp]

/-- Settles O3: a frame passes its check, and code and parameters are read back field by field. -/
theorem framesRoundTrip : Obligations.FramesRoundTrip := fun _ _ _ hp => decodeFrame_encodeFrame hp

end Sys2Proof.Machine
end

section
/-! PROOFS. How the bytes of a frame are read: codes that name no command, the lengths that each layout admits (11.1,
R187), and the fields whose every encoding is defined (11.2, R188). -/

namespace Sys2Proof.Machine

/-! ### Codes that name no command (R166, R187) -/

/-- The codes of 11.1. -/
def commandCodes : List Nat :=
  [0x01, 0x02, 0x03, 0x04, 0x10, 0x11, 0x12, 0x13, 0x14, 0x15, 0x16, 0x20, 0x21, 0x22, 0x23, 0x30, 0x31, 0x32, 0x40,
    0x41, 0x42, 0x43, 0x50, 0x51, 0x52, 0x53, 0x60, 0x61, 0x62, 0x70, 0x71, 0x72, 0x73]

/-- A code outside the table fails every comparison that names a command. -/
theorem readCommand_of_unlisted {code : Byte} (h : code.toNat ∉ commandCodes) (p : PortId) (params : List Byte) :
    readCommand p code params = .error .unknown := by
  have other {c : Byte} (hc : c.toNat ∈ commandCodes) : code ≠ c := by
    rintro rfl
    exact h hc
  unfold readCommand
  iterate 33 refine Eq.trans (if_neg (other (by decide))) ?_
  rfl

theorem readCommand_of_foreign_mode {params : List Byte}
    (h : ∀ mode rest, params = mode :: rest → mode ≠ 0x00#8 ∧ mode ≠ 0x01#8) (p : PortId) :
    readCommand p 0x20 params = .error .unknown := by
  show readContextWrite p params = _
  cases params with
  | nil => rfl
  | cons mode rest =>
    obtain ⟨notDefine, notSet⟩ := h mode rest rfl
    simp only [readContextWrite, notDefine, notSet, if_false]

/-! ### The lengths of 11.1 (R187) -/

/-- The lengths L that 11.1 gives for each code. -/
def LengthAdmitted (code : Byte) (L : Nat) : Prop :=
  code = 0x01 ∨ (code.toNat ∈ [0x04, 0x15, 0x43, 0x52, 0x61, 0x62, 0x70, 0x73] ∧ L = 3) ∨
    (code.toNat ∈ [0x02, 0x03, 0x11, 0x12, 0x21, 0x22, 0x23, 0x32, 0x40, 0x41, 0x42, 0x51, 0x71, 0x72] ∧ L = 4) ∨
    (code = 0x31 ∧ L = 5) ∨ (code.toNat ∈ [0x13, 0x53] ∧ L = 6) ∨ (code = 0x30 ∧ L = 9) ∨
    (code.toNat ∈ [0x50, 0x60] ∧ L = 12) ∨ (code = 0x16 ∧ L = 13) ∨ (code = 0x20 ∧ L = 27) ∨
    (code = 0x10 ∧ ∃ k, k ≤ 84 ∧ L = 3 + 3 * k) ∨ (code = 0x14 ∧ ∃ k, k ≤ 62 ∧ L = 6 + 4 * k)

theorem lengthAdmitted_noParameter :
    ∀ c ∈ ([0x04, 0x15, 0x43, 0x52, 0x61, 0x62, 0x70, 0x73] : List Byte), ∀ L, LengthAdmitted c L ↔ L = 3 := by
  simp [LengthAdmitted]

theorem lengthAdmitted_oneParameter :
    ∀ c ∈ ([0x02, 0x03, 0x11, 0x12, 0x21, 0x22, 0x23, 0x32, 0x40, 0x41, 0x42, 0x51, 0x71, 0x72] : List Byte),
      ∀ L, LengthAdmitted c L ↔ L = 4 := by
  simp [LengthAdmitted]

/-- WRITE_MAP's list holds whole entries (R8). -/
theorem lengthAdmitted_writeMap {n : Nat} (h : n ≤ 252) : LengthAdmitted 0x10 (n + 3) ↔ n % 3 = 0 := by
  have entries : LengthAdmitted 0x10 (n + 3) ↔ ∃ k, k ≤ 84 ∧ n + 3 = 3 + 3 * k := by simp [LengthAdmitted]
  rw [entries]
  exact ⟨fun ⟨k, _, hk⟩ => by omega, fun hn => ⟨n / 3, by omega, by omega⟩⟩

/-- WRITE_WORDS carries three bytes and whole words (R12). -/
theorem lengthAdmitted_writeWords {n : Nat} (h : n ≤ 252) :
    LengthAdmitted 0x14 (n + 3) ↔ 3 ≤ n ∧ (n - 3) % 4 = 0 := by
  have words : LengthAdmitted 0x14 (n + 3) ↔ ∃ k, k ≤ 62 ∧ n + 3 = 6 + 4 * k := by simp [LengthAdmitted]
  rw [words]
  exact ⟨fun ⟨k, _, hk⟩ => by omega, fun hn => ⟨(n - 3) / 4, by omega, by omega⟩⟩

/-- A reading of a frame of code `code` is a command of that code and of port p where the length is one of 11.1, and
LENGTH otherwise. -/
def ReadsByLength (p : PortId) (code : Byte) (params : List Byte) (r : Except Status Instr) : Prop :=
  (LengthAdmitted code (params.length + 3) → ∃ i, r = .ok i ∧ i.code = code ∧ i.commandPort = some p) ∧
    (¬LengthAdmitted code (params.length + 3) → r = .error .length)

section
variable {p : PortId} {code : Byte} {params : List Byte} {r : Except Status Instr}

theorem ReadsByLength.ok {i : Instr} (h : LengthAdmitted code (params.length + 3)) (hcode : i.code = code)
    (hp : i.commandPort = some p) : ReadsByLength p code params (.ok i) :=
  ⟨fun _ => ⟨i, rfl, hcode, hp⟩, fun hno => absurd h hno⟩

theorem ReadsByLength.error (h : ¬LengthAdmitted code (params.length + 3)) :
    ReadsByLength p code params (.error .length) :=
  ⟨fun hyes => absurd hyes h, fun _ => rfl⟩

theorem ReadsByLength.layout0 {i : Instr} (hcode : i.code = code) (hp : i.commandPort = some p)
    (hadmits : ∀ L, LengthAdmitted code L ↔ L = 3) : ReadsByLength p code params (layout0 i params) := by
  rw [layout0_eq]
  split
  · exact .ok ((hadmits _).mpr (by omega)) hcode hp
  · exact .error fun h => by have := (hadmits _).mp h; omega

theorem ReadsByLength.layout1 {f : Byte → Instr} (hcode : ∀ a, (f a).code = code)
    (hp : ∀ a, (f a).commandPort = some p) (hadmits : ∀ L, LengthAdmitted code L ↔ L = 4) :
    ReadsByLength p code params (layout1 f params) := by
  rw [layout1_eq]
  split
  · exact .ok ((hadmits _).mpr (by omega)) (hcode _) (hp _)
  · exact .error fun h => by have := (hadmits _).mp h; omega

/-- A list or a block that is read whole exactly at the lengths admitted. -/
theorem ReadsByLength.orLength {α : Type} {f : α → Instr} {o : Option α} (hcode : ∀ a, (f a).code = code)
    (hp : ∀ a, (f a).commandPort = some p) (hadmits : LengthAdmitted code (params.length + 3) ↔ o.isSome = true) :
    ReadsByLength p code params (orLength (o.map f)) := by
  cases o with
  | some a => exact .ok (hadmits.mpr rfl) (hcode a) (hp a)
  | none => exact .error fun h => by cases hadmits.mp h

/-- A layout of exactly n parameter bytes. -/
theorem ReadsByLength.fixed {n : Nat} (hadmits : ∀ L, LengthAdmitted code L ↔ L = n + 3)
    (hfits : params.length = n → ∃ i, r = .ok i ∧ i.code = code ∧ i.commandPort = some p)
    (hmisfit : params.length ≠ n → r = .error .length) : ReadsByLength p code params r := by
  unfold ReadsByLength
  rw [hadmits, Nat.add_right_cancel_iff]
  exact ⟨hfits, hmisfit⟩

end

/-- The eight commands without a parameter. -/
theorem readCommand_noParameter (p : PortId) (params : List Byte) :
    ∀ c ∈ ([0x04, 0x15, 0x43, 0x52, 0x61, 0x62, 0x70, 0x73] : List Byte),
      ReadsByLength p c params (readCommand p c params) := by
  have reads (i : Instr) {c : Byte} (hcode : i.code = c) (hp : i.commandPort = some p)
      (hmem : c ∈ ([0x04, 0x15, 0x43, 0x52, 0x61, 0x62, 0x70, 0x73] : List Byte)) :
      ReadsByLength p c params (layout0 i params) := .layout0 hcode hp (lengthAdmitted_noParameter _ hmem)
  simp only [List.forall_mem_cons]
  exact ⟨reads (.deviceRestart p) rfl rfl (by decide), reads (.readPageFaults p) rfl rfl (by decide),
    reads (.readRun p) rfl rfl (by decide), reads (.readLines p) rfl rfl (by decide),
    reads (.abortCheck p) rfl rfl (by decide), reads (.readCheck p) rfl rfl (by decide),
    reads (.readEvents p) rfl rfl (by decide), reads (.readCompletions p) rfl rfl (by decide), nofun⟩

/-- The fourteen commands of one parameter byte. -/
theorem readCommand_oneParameter (p : PortId) (params : List Byte) :
    ∀ c ∈ ([0x02, 0x03, 0x11, 0x12, 0x21, 0x22, 0x23, 0x32, 0x40, 0x41, 0x42, 0x51, 0x71, 0x72] : List Byte),
      ReadsByLength p c params (readCommand p c params) := by
  have reads (f : Byte → Instr) {c : Byte} (hcode : ∀ a, (f a).code = c) (hp : ∀ a, (f a).commandPort = some p)
      (hmem : c ∈ ([0x02, 0x03, 0x11, 0x12, 0x21, 0x22, 0x23, 0x32, 0x40, 0x41, 0x42, 0x51, 0x71, 0x72] : List Byte)) :
      ReadsByLength p c params (layout1 f params) := .layout1 hcode hp (lengthAdmitted_oneParameter _ hmem)
  simp only [List.forall_mem_cons]
  exact ⟨reads (.setPort p) (fun _ => rfl) (fun _ => rfl) (by decide),
    reads (.portReset p) (fun _ => rfl) (fun _ => rfl) (by decide),
    reads (.readMap p) (fun _ => rfl) (fun _ => rfl) (by decide),
    reads (.translate p) (fun _ => rfl) (fun _ => rfl) (by decide),
    reads (.readContext p) (fun _ => rfl) (fun _ => rfl) (by decide),
    reads (.clearContext p) (fun _ => rfl) (fun _ => rfl) (by decide),
    reads (.freeContext p) (fun _ => rfl) (fun _ => rfl) (by decide),
    reads (.invoke p) (fun _ => rfl) (fun _ => rfl) (by decide),
    reads (.hold p) (fun _ => rfl) (fun _ => rfl) (by decide),
    reads (.resume p) (fun _ => rfl) (fun _ => rfl) (by decide),
    reads (.abort p) (fun _ => rfl) (fun _ => rfl) (by decide),
    reads (.clearLine p) (fun _ => rfl) (fun _ => rfl) (by decide),
    reads (.clearEvents p) (fun _ => rfl) (fun _ => rfl) (by decide),
    reads (.setAttention p) (fun _ => rfl) (fun _ => rfl) (by decide), nofun⟩

section
variable (p : PortId) (params : List Byte)

theorem readReadGate_byLength : ReadsByLength p 0x31 params (readReadGate p params) := by
  refine .fixed (n := 2) (by simp [LengthAdmitted]) (fun hfits => ?_) fun hmisfit => ?_
  · match params, hfits with | [_, _], _ => exact ⟨_, rfl, rfl, rfl⟩
  · unfold readReadGate
    split <;> [exact absurd rfl hmisfit; rfl]

theorem readReadWords_byLength : ReadsByLength p 0x13 params (readReadWords p params) := by
  refine .fixed (n := 3) (by simp [LengthAdmitted]) (fun hfits => ?_) fun hmisfit => ?_
  · match params, hfits with | [_, _, _], _ => exact ⟨_, rfl, rfl, rfl⟩
  · unfold readReadWords
    split <;> [exact absurd rfl hmisfit; rfl]

theorem readSetTimer_byLength : ReadsByLength p 0x53 params (readSetTimer p params) := by
  refine .fixed (n := 3) (by simp [LengthAdmitted]) (fun hfits => ?_) fun hmisfit => ?_
  · match params, hfits with | [_, _, _], _ => exact ⟨_, rfl, rfl, rfl⟩
  · unfold readSetTimer
    split <;> [exact absurd rfl hmisfit; rfl]

theorem readWriteGate_byLength : ReadsByLength p 0x30 params (readWriteGate p params) := by
  refine .fixed (n := 6) (by simp [LengthAdmitted]) (fun hfits => ?_) fun hmisfit => ?_
  · match params, hfits with | [_, _, _, _, _, _], _ => exact ⟨_, rfl, rfl, rfl⟩
  · unfold readWriteGate
    split <;> [exact absurd rfl hmisfit; rfl]

theorem readConfigLine_byLength : ReadsByLength p 0x50 params (readConfigLine p params) := by
  refine .fixed (n := 9) (by simp [LengthAdmitted]) (fun hfits => ?_) fun hmisfit => ?_
  · match params, hfits with | [_, _, _, _, _, _, _, _, _], _ => exact ⟨_, rfl, rfl, rfl⟩
  · unfold readConfigLine
    split <;> [exact absurd rfl hmisfit; rfl]

theorem readStartCheck_byLength : ReadsByLength p 0x60 params (readStartCheck p params) := by
  refine .fixed (n := 9) (by simp [LengthAdmitted]) (fun hfits => ?_) fun hmisfit => ?_
  · match params, hfits with | [_, _, _, _, _, _, _, _, _], _ => exact ⟨_, rfl, rfl, rfl⟩
  · unfold readStartCheck
    split <;> [exact absurd rfl hmisfit; rfl]

theorem readClearFaults_byLength : ReadsByLength p 0x16 params (readClearFaults p params) := by
  refine .fixed (n := 10) (by simp [LengthAdmitted]) (fun hfits => ?_) fun hmisfit => ?_
  · match params, hfits with | [_, _, _, _, _, _, _, _, _, _], _ => exact ⟨_, rfl, rfl, rfl⟩
  · unfold readClearFaults
    split <;> [exact absurd rfl hmisfit; rfl]

end

theorem parseBlockFields_isSome (bytes : List Byte) : (parseBlockFields bytes).isSome = true ↔ bytes.length = 22 := by
  refine ⟨fun h => ?_, fun h => ?_⟩
  · unfold parseBlockFields at h
    split at h
    · rfl
    · cases h
  · match bytes, h with
    | [_, _, _, _, _, _, _, _, _, _, _, _, _, _, _, _, _, _, _, _, _, _], _ => rfl

/-- After the mode and the slot, code 20H carries one whole parameter block (11.3). -/
theorem blockCommand_byLength {p : PortId} {f : BlockFields → Instr} (hcode : ∀ b, (f b).code = 0x20)
    (hp : ∀ b, (f b).commandPort = some p) (mode slot : Byte) (bytes : List Byte) :
    ReadsByLength p 0x20 (mode :: slot :: bytes) (orLength ((parseBlockFields bytes).map f)) := by
  refine .orLength hcode hp ?_
  rw [parseBlockFields_isSome]
  simp [LengthAdmitted]

theorem readContextWrite_byLength {params : List Byte} (h : params.head? = some 0x00 ∨ params.head? = some 0x01)
    (p : PortId) : ReadsByLength p 0x20 params (readContextWrite p params) := by
  have noSlot (mode : Byte) : ReadsByLength p 0x20 [mode] (.error .length) := .error (by simp [LengthAdmitted])
  match params, h with
  | [mode], .inl h => cases h; exact noSlot _
  | [mode], .inr h => cases h; exact noSlot _
  | mode :: slot :: bytes, .inl h => cases h; exact blockCommand_byLength (fun _ => rfl) (fun _ => rfl) _ slot bytes
  | mode :: slot :: bytes, .inr h => cases h; exact blockCommand_byLength (fun _ => rfl) (fun _ => rfl) _ slot bytes

theorem readWriteMap_byLength {params : List Byte} (h : params.length ≤ 252) (p : PortId) :
    ReadsByLength p 0x10 params (orLength ((parseEntries params).map (.writeMap p))) := by
  refine .orLength (fun _ => rfl) (fun _ => rfl) ?_
  rw [lengthAdmitted_writeMap h, parseEntries_isSome]

theorem readWriteWords_byLength {params : List Byte} (h : params.length ≤ 252) (p : PortId) :
    ReadsByLength p 0x14 params (readWriteWords p params) := by
  have short (hshort : params.length < 3) : ReadsByLength p 0x14 params (.error .length) :=
    .error (by rw [lengthAdmitted_writeWords h]; omega)
  match params with
  | [] | [_] | [_, _] => exact short (by simp)
  | page :: offset :: count :: rest =>
    refine .orLength (fun _ => rfl) (fun _ => rfl) ?_
    rw [lengthAdmitted_writeWords h, parseWords_isSome]
    simp

/-- The codes of several parameters, each with its own layout, and ECHO, which any length fits. -/
theorem readCommand_ownLayout {params : List Byte} (h : params.length ≤ 252) (p : PortId) :
    ∀ c ∈ ([0x01, 0x10, 0x13, 0x14, 0x16, 0x30, 0x31, 0x50, 0x53, 0x60] : List Byte),
      ReadsByLength p c params (readCommand p c params) := by
  simp only [List.forall_mem_cons]
  exact ⟨.ok (.inl rfl) rfl rfl, readWriteMap_byLength h p, readReadWords_byLength p params,
    readWriteWords_byLength h p, readClearFaults_byLength p params, readWriteGate_byLength p params,
    readReadGate_byLength p params, readConfigLine_byLength p params, readSetTimer_byLength p params,
    readStartCheck_byLength p params, nofun⟩

/-- The codes of 11.1 but 20H, by their layouts. -/
theorem mem_layouts {code : Byte} (h : code.toNat ∈ commandCodes.erase 0x20) :
    code ∈ ([0x04, 0x15, 0x43, 0x52, 0x61, 0x62, 0x70, 0x73] : List Byte) ∨
      code ∈ ([0x02, 0x03, 0x11, 0x12, 0x21, 0x22, 0x23, 0x32, 0x40, 0x41, 0x42, 0x51, 0x71, 0x72] : List Byte) ∨
      code ∈ ([0x01, 0x10, 0x13, 0x14, 0x16, 0x30, 0x31, 0x50, 0x53, 0x60] : List Byte) := by
  revert code
  decide

/-- The reading of a frame that names a command, by its length (R166, R187). -/
theorem readCommand_byLength {p : PortId} {code : Byte} {params : List Byte} (hlength : params.length ≤ 252)
    (hnames : code.toNat ∈ commandCodes.erase 0x20 ∨
      (code = 0x20 ∧ (params.head? = some 0x00 ∨ params.head? = some 0x01))) :
    ReadsByLength p code params (readCommand p code params) := by
  rcases hnames with hlisted | ⟨rfl, hmode⟩
  · rcases mem_layouts hlisted with h | h | h
    · exact readCommand_noParameter p params code h
    · exact readCommand_oneParameter p params code h
    · exact readCommand_ownLayout hlength p code h
  · exact readContextWrite_byLength hmode p

/-! ### Fields (11.2) -/

/-- Bit j of byte i of a page set stands for page 8i + j. -/
theorem pageSetOf_getLsbD (b0 b1 b2 b3 b4 b5 b6 b7 : Byte) {i j : Nat} {b : Byte}
    (hb : [b0, b1, b2, b3, b4, b5, b6, b7][i]? = some b) (hj : j < 8) :
    (pageSetOf b0 b1 b2 b3 b4 b5 b6 b7).getLsbD (8 * i + j) = b.getLsbD j := by
  have low {n : Nat} (hi : BitVec n) (lo : Byte) : (hi ++ lo).getLsbD j = lo.getLsbD j := by
    rw [BitVec.getLsbD_append, if_pos hj]
  have next (k : Nat) : 8 * (k + 1) + j = 8 * k + j + 8 := by omega
  have high {n : Nat} (hi : BitVec n) (lo : Byte) (k : Nat) : (hi ++ lo).getLsbD (k + 8) = hi.getLsbD k := by
    rw [BitVec.getLsbD_append, if_neg (by omega), Nat.add_sub_cancel]
  have hi : i < 8 := (List.getElem?_eq_some_iff.mp hb).1
  interval_cases i <;> cases hb <;> simp only [pageSetOf, next, high, Nat.mul_zero, Nat.zero_add, low]

/-- Settles O4: the bytes of a closed frame, the codes and modes that name no command, `ReadsByLength` for those that
do, and the fields byte by byte. -/
theorem framesCloseAndForeignCodesAreUnknown : Obligations.FramesCloseAndForeignCodesAreUnknown := by
  refine ⟨fun middle _ => ⟨rfl, Laws.length_closeFrame middle, ?_, crc8_closeFrame middle⟩,
    fun p code params => ⟨fun h => readCommand_of_unlisted h p params, fun h => readCommand_of_foreign_mode h p⟩,
    fun p code params hlength hnames => ?_, fun p b0 b1 b2 b3 b4 b5 b6 b7 x y => ?_,
    fun p a b c d e f g h k => ⟨rfl, rfl, rfl⟩, ?_⟩
  · rw [Laws.length_closeFrame]
    rfl
  · exact readCommand_byLength hlength hnames
  · exact ⟨pageSetOf b0 b1 b2 b3 b4 b5 b6 b7, fun i j b hb hj => pageSetOf_getLsbD _ _ _ _ _ _ _ _ hb hj, rfl, rfl⟩
  · intros
    exact ⟨rfl, rfl⟩

end Sys2Proof.Machine
end

section
/-! PROOFS. The events at a port's wires: SELECT and DESELECT (R163, R164, R168), the byte exchange with the frame that
it assembles and completes (R163 to R168), and the receive timer's expiry (R164). -/

namespace Sys2Proof.Machine

/-! ### Select, deselect and the receive timer -/

theorem exec_select (p : PortId) (s : State) : exec (.select p) s = .next (s.modPort p Port.onSelect) := rfl

theorem exec_deselect (p : PortId) (s : State) : exec (.deselect p) s = .next (s.modPort p Port.onDeselect) := rfl

theorem exec_receiveTimerExpiry {s : State} (hphase : s.phase = .operating) (p : PortId) :
    exec (.receiveTimerExpiry p) s = .next (s.modPort p Port.onTimeout) :=
  whenOperating_of_operating hphase fun s => s.modPort p Port.onTimeout

/-- Settles O35: what each event makes of its port, in the states where it has an effect and in the others. -/
theorem selectDeselectAndReceiveTimer : Obligations.SelectDeselectAndReceiveTimer := by
  refine ⟨fun p s => ?_, fun p s L bytes ms hphase hreceive htimer => ?_⟩
  · rw [exec_select, exec_deselect]
    refine ⟨fun hidle => congrArg _ (s.modPort_congr ?_), fun hselected => congrArg _ (s.modPort_congr ?_),
      fun hselected => congrArg _ (s.modPort_id ?_), fun hidle => congrArg _ (s.modPort_id ?_)⟩
    · simp only [Port.onSelect, hidle, Bool.false_eq_true, if_false]
    · simp only [Port.onDeselect, hselected, if_true]
    · exact if_pos hselected
    · exact if_neg (by simp [hidle])
  · rw [exec_receiveTimerExpiry hphase]
    refine congrArg _ (s.modPort_congr ?_)
    simp only [Port.onTimeout, hreceive, htimer]

/-! ### The byte shifted out (R168) -/

/-- A port that has shifted out the next byte of its outgoing response `o`: the last byte consumes the response. -/
def Port.shifted (pt : Port) (o : Outgoing) : Port :=
  { pt with
    dataOut := o.response.frame.getD o.sent 0x00
    response := if o.sent + 1 = o.response.frame.length ∧ o.stillPending = true then none else pt.response
    outgoing := some ⟨o.response, o.sent + 1,
      if o.sent + 1 = o.response.frame.length then false else o.stillPending⟩ }

theorem Port.shiftOut_of_none {pt : Port} (h : pt.outgoing = none) : pt.shiftOut = { pt with dataOut := 0x00 } := by
  simp only [Port.shiftOut, Port.nextOut, h]

theorem Port.shiftOut_of_some {pt : Port} {o : Outgoing} (h : pt.outgoing = some o) : pt.shiftOut = pt.shifted o := by
  simp only [Port.shiftOut, Port.nextOut, h]
  by_cases hlast : o.sent + 1 = o.response.frame.length
  · cases hpending : o.stillPending <;> simp [Port.shifted, hlast, hpending]
  · simp [Port.shifted, hlast]

/-- The two outcomes determine the port after the byte. -/
theorem Port.shiftOut_eq {pt q : Port} (hnone : pt.outgoing = none → q = { pt with dataOut := 0x00 })
    (hsome : ∀ o, pt.outgoing = some o → q = pt.shifted o) : pt.shiftOut = q := by
  cases h : pt.outgoing with
  | none => rw [Port.shiftOut_of_none h, hnone h]
  | some o => rw [Port.shiftOut_of_some h, hsome o h]

section
variable (pt : Port)

/-- The byte shifted out touches the data output and the two responses alone. -/
theorem Port.shiftOut_frame :
    pt.shiftOut = { pt with
      dataOut := pt.shiftOut.dataOut, response := pt.shiftOut.response, outgoing := pt.shiftOut.outgoing } := by
  unfold Port.shiftOut
  split
  · rfl
  · split <;> rfl

@[simp] theorem Port.shiftOut_receive : pt.shiftOut.receive = pt.receive := by rw [pt.shiftOut_frame]

@[simp] theorem Port.shiftOut_period : pt.shiftOut.period = pt.period := by rw [pt.shiftOut_frame]

@[simp] theorem Port.shiftOut_timeout : pt.shiftOut.timeout = pt.timeout := by rw [pt.shiftOut_frame]

@[simp] theorem Port.shiftOut_run : pt.shiftOut.run = pt.run := by rw [pt.shiftOut_frame]

@[simp] theorem Port.shiftOut_kept : pt.shiftOut.kept = pt.kept := by rw [pt.shiftOut_frame]

end

/-! ### The byte taken in (R163 to R165) -/

section
variable {s : State} {p : PortId} {b : Byte}

theorem State.takeIn_length (hwait : (s.port p).receive = .waitLength) (hopen : (s.port p).period = .open) :
    s.takeIn p b = s.takeLength p b := by
  rw [State.takeIn, hwait, hopen]

/-- A byte passed over: 00H in WAIT_LENGTH, any byte with the period closed or in DISCARDING. -/
theorem State.takeIn_ignored
    (h : ((s.port p).receive = .waitLength ∧ ((s.port p).period = .closed ∨ b = 0x00)) ∨
      (s.port p).receive = .discarding) : s.takeIn p b = s := by
  rcases h with ⟨hwait, hclosed | hzero⟩ | hdiscarding
  · rw [State.takeIn, hwait, hclosed]
  · cases hperiod : (s.port p).period
    · rw [State.takeIn_length hwait hperiod]
      exact if_pos hzero
    · rw [State.takeIn, hwait, hperiod]
  · rw [State.takeIn, hdiscarding]

/-- A length of 3 to 255 begins a frame (R163). -/
theorem State.takeLength_begins (h : 3 ≤ b.toNat) :
    s.takeLength p b =
      s.modPort p fun pt => { pt with receive := .receiving b.toNat [b], receiveTimer := timerFor pt.timeout } := by
  have other {c : Byte} (hc : c.toNat < 3) : b ≠ c := by
    rintro rfl
    omega
  rw [State.takeLength, if_neg (other (by decide)), if_neg (not_or.mpr ⟨other (by decide), other (by decide)⟩)]

/-- A length of 1 or 2 is answered LENGTH (R165). -/
theorem State.takeLength_bad (h : b = 0x01 ∨ b = 0x02) :
    s.takeLength p b = (s.modPort p fun pt => { pt with receive := .discarding }).answer p 0x00 .length [] := by
  have nonzero : b ≠ 0x00#8 := by rcases h with rfl | rfl <;> decide
  rw [State.takeLength, if_neg nonzero]
  exact if_pos h

theorem State.takeIn_adds {L : Nat} {bytes : List Byte} (hreceive : (s.port p).receive = .receiving L bytes)
    (hmore : bytes.length + 1 ≠ L) :
    s.takeIn p b = s.modPort p fun pt => { pt with receive := .receiving L (bytes ++ [b]) } := by
  rw [State.takeIn, hreceive]
  exact if_neg (by rwa [List.length_append, List.length_singleton])

theorem State.takeIn_completes {L : Nat} {bytes : List Byte} (hreceive : (s.port p).receive = .receiving L bytes)
    (hlast : bytes.length + 1 = L) :
    s.takeIn p b = frameCompleted p (bytes ++ [b]) (s.modPort p Port.frameDone) := by
  rw [State.takeIn, hreceive]
  exact if_pos (by rwa [List.length_append, List.length_singleton])

end

/-! ### The byte exchange -/

/-- A byte exchange at a selected port of the operating part: the byte out first, then the byte in (R163, R168). -/
theorem exec_byteExchange {p : PortId} {s : State} (hselected : (s.port p).selected = true)
    (hphase : s.phase = .operating) (b : Byte) :
    exec (.byteExchange p b) s = .next ((s.modPort p Port.shiftOut).takeIn p b) := by
  show execByteExchange p b s = _
  rw [execByteExchange, if_pos hselected, hphase]

/-- While the part does not operate 00H is shifted out and no byte is taken (R177). -/
theorem exec_byteExchange_of_not_operating {p : PortId} {s : State} (hselected : (s.port p).selected = true)
    (hphase : s.phase ≠ .operating) (b : Byte) :
    exec (.byteExchange p b) s = .next (s.modPort p fun pt => { pt with dataOut := 0x00 }) := by
  show execByteExchange p b s = _
  rw [execByteExchange, if_pos hselected]
  split
  · next hoperating => exact absurd hoperating hphase
  all_goals rfl

/-- Settles O36: the byte that comes in is passed over, so the exchange is the byte shifted out. -/
theorem byteExchangeShiftsOutTheResponse : Obligations.ByteExchangeShiftsOutTheResponse := by
  intro p b s hselected
  refine ⟨fun hphase => exec_byteExchange_of_not_operating hselected hphase b, fun hphase hignored => ?_⟩
  have exchange : exec (.byteExchange p b) s = .next (s.modPort p Port.shiftOut) := by
    rw [exec_byteExchange hselected hphase, State.takeIn_ignored]
    simpa using hignored
  rw [exchange]
  refine ⟨fun hnone => congrArg _ ?_, fun o ho => congrArg _ (s.modPort_congr (Port.shiftOut_of_some ho))⟩
  exact s.modPort_congr (g := fun _ => { s.port p with dataOut := 0x00 }) (Port.shiftOut_of_none hnone)

/-- Settles O37: a length that begins a frame, a length that is refused, and a byte added to the frame in assembly. -/
theorem byteExchangeAssemblesAFrame : Obligations.ByteExchangeAssemblesAFrame := by
  intro p b s hselected hphase quiet
  have hquiet : (s.port p).shiftOut = quiet :=
    Port.shiftOut_eq (fun h => by simp only [quiet, h]) fun o h => by simp only [quiet, h]; rfl
  have receive : ((s.modPort p Port.shiftOut).port p).receive = (s.port p).receive := by simp
  have timeout : quiet.timeout = (s.port p).timeout := by rw [← hquiet, Port.shiftOut_timeout]
  rw [exec_byteExchange hselected hphase]
  refine ⟨fun hwait hopen => ?_, fun L bytes hreceive hmore => ?_⟩
  · rw [State.takeIn_length (receive.trans hwait) (by simpa using hopen)]
    refine ⟨fun hlong => ?_, fun hbad => ?_⟩
    · rw [State.takeLength_begins hlong, State.modPort_modPort]
      refine congrArg _ (s.modPort_congr ?_)
      rw [hquiet, timeout]
      rfl
    · rw [State.takeLength_bad hbad, State.answer, State.modPort_modPort, State.modPort_modPort]
      refine congrArg _ (s.modPort_congr ?_)
      rw [hquiet]
      rfl
  · rw [State.takeIn_adds (receive.trans hreceive) hmore, State.modPort_modPort]
    refine congrArg _ (s.modPort_congr (g := fun _ => { quiet with receive := .receiving L (bytes ++ [b]) }) ?_)
    rw [hquiet]

/-! ### The byte that completes a frame (R164, R166) -/

/-- During a data run the frame is kept, or discarded where one is kept (R14, R166). -/
theorem frameCompleted_during_run {s : State} {p : PortId} (h : (s.port p).run ≠ none) (frame : List Byte) :
    ((s.port p).kept = none → frameCompleted p frame s = s.modPort p fun pt => { pt with kept := some frame }) ∧
      ((s.port p).kept ≠ none → frameCompleted p frame s = s) := by
  obtain ⟨run, hrun⟩ := Option.ne_none_iff_exists'.mp h
  have keeps : frameCompleted p frame s = s.modPort p fun pt => pt.keep frame := by rw [frameCompleted, hrun]
  rw [keeps]
  refine ⟨fun hnone => s.modPort_congr ?_, fun hsome => s.modPort_id ?_⟩
  · simp only [Port.keep, hnone]
  · obtain ⟨kept, hkept⟩ := Option.ne_none_iff_exists'.mp hsome
    simp only [Port.keep, hkept]

theorem frameCompleted_of_no_run {s : State} {p : PortId} (h : (s.port p).run = none) (frame : List Byte) :
    frameCompleted p frame s = takeFrame p frame s := by
  rw [frameCompleted, h]

/-- The frame of a command, taken where the port takes commands, has the effect of the command's row. -/
theorem takeFrame_encodeFrame {s : State} {p : PortId} (htakes : s.takes p) {i : Instr} (hp : i.commandPort = some p) :
    .next (takeFrame p (encodeFrame i) s) = exec i s := by
  rw [exec_of_takes hp htakes, takeFrame, decodeFrame_encodeFrame hp]

/-- Settles O38: the exchange leaves the state `settled` with the frame complete, which is kept or taken in it. -/
theorem lastByteCompletesTheFrame : Obligations.LastByteCompletesTheFrame := by
  intro p b s L bytes hselected hphase hreceive hlast quiet frame settled
  have hquiet : (s.port p).shiftOut = quiet :=
    Port.shiftOut_eq (fun h => by simp only [quiet, h]) fun o h => by simp only [quiet, h]; rfl
  have exchange : exec (.byteExchange p b) s = .next (frameCompleted p frame settled) := by
    have done : (s.modPort p Port.shiftOut).modPort p Port.frameDone = settled := by
      rw [State.modPort_modPort]
      refine s.modPort_congr ?_
      rw [hquiet]
      rfl
    rw [exec_byteExchange hselected hphase, State.takeIn_completes (by simpa using hreceive) hlast, done]
  have run : (settled.port p).run = (s.port p).run := by
    rw [State.modPort_port_self, ← (s.port p).shiftOut_run, hquiet]
  have kept : (settled.port p).kept = (s.port p).kept := by
    rw [State.modPort_port_self, ← (s.port p).shiftOut_kept, hquiet]
  rw [exchange]
  refine ⟨fun hrun => ?_, fun hrun => ?_⟩
  · rw [← run] at hrun
    rw [← kept]
    obtain ⟨keeps, discards⟩ := frameCompleted_during_run hrun frame
    exact ⟨fun hnone => congrArg _ (keeps hnone), fun hsome => congrArg _ (discards hsome)⟩
  · have htakes : settled.takes p := ⟨hphase, run.trans hrun⟩
    obtain ⟨checksum, passed⟩ := takeFrame_outcomes htakes frame
    rw [frameCompleted_of_no_run (run.trans hrun)]
    refine ⟨fun hcrc => congrArg _ (checksum hcrc), fun hcrc => ?_, fun i _ hp hframe => ?_⟩
    · obtain ⟨error, ok⟩ := passed hcrc
      exact ⟨fun st hst => congrArg _ (error st hst), ok⟩
    · rw [hframe]
      exact takeFrame_encodeFrame htakes hp

end Sys2Proof.Machine
end

section
/-! PROOFS. While the part does not operate: what is passed over, and how it stops and starts (R177). -/

namespace Sys2Proof.Machine

/-! ### Nothing is taken (R177) -/

/-- An event of the part's own units has no effect while the part does not operate. -/
theorem whenOperating_of_not_operating {s : State} (h : s.phase ≠ .operating) (effect : State → State) :
    whenOperating s effect = .next s := by
  rw [whenOperating_next, if_neg h]

/-- No command is taken while the part does not operate, and no frame is kept. -/
theorem exec_command_of_not_operating {i : Instr} {p : PortId} (hp : i.commandPort = some p) {s : State}
    (h : s.phase ≠ .operating) : exec i s = .next s := by
  rw [exec_command hp, takenAt, whenOperating_of_not_operating h]

/-- A pin set to the level that it has stands as it is (R124). -/
theorem State.setPin_of_eq {s : State} {l : LineId} {level : PinLevel} (h : s.pins[l] = level) :
    s.setPin l level = s := by
  rw [State.setPin, ← h, update_self]

/-- A pin is sampled while the part does not operate, and no line acts on it (R143). -/
theorem exec_pinLevelChange_of_not_operating {s : State} (h : s.phase ≠ .operating) (l : LineId) (level : PinLevel) :
    exec (.pinLevelChange l level) s = .next (s.setPin l level) := by
  show execPinLevelChange l level s = _
  unfold execPinLevelChange
  split
  · next hsame => rw [State.setPin_of_eq hsame]
  · split
    · next hphase => exact absurd hphase h
    all_goals rfl

/-- Settles O52: commands and the events of the part's own units are taken while it operates alone. -/
theorem nothingIsTakenWhileNotOperating : Obligations.NothingIsTakenWhileNotOperating := by
  intro i s hphase
  have idle (effect : State → State) : whenOperating s effect = .next s := whenOperating_of_not_operating hphase effect
  refine ⟨?_, ?_⟩
  · rintro (hcommand | ⟨p, rfl⟩ | ⟨p, fails, rfl⟩ | ⟨failing, rfl⟩ | ⟨l, rfl⟩ | ⟨l, rfl⟩ | rfl | rfl | ⟨o, rfl⟩ |
      ⟨o, rfl⟩ | ⟨o, rfl⟩)
    · obtain ⟨p, hp⟩ := Option.isSome_iff_exists.mp hcommand
      exact exec_command_of_not_operating hp hphase
    · exact idle fun s => s.modPort p Port.onTimeout
    · exact idle fun s => s.accessWord p fails
    · exact idle fun s => s.elementStep failing
    · exact idle fun s => s.debounceExpired l
    · exact idle fun s => s.validationExpired l
    · exact idle fun s => if s.timer.running then s.intervalExpired else s
    · exact idle State.countFalls
    · exact idle fun s => s.completeReference o
    · exact idle fun s => s.completePage o
    · exact idle fun s => s.completePair o
  · rintro l level rfl
    exact exec_pinLevelChange_of_not_operating hphase l level

/-! ### The part stops and starts (R177) -/

/-- Settles O51: the phase that each of the two causes leads to, `State.stop` at a cause and `State.start` at its end. -/
theorem powerAndResetLoseAndRestore : Obligations.PowerAndResetLoseAndRestore := by
  intro s straps lost stopped started
  have powerOn : exec .powerOn s = .next (stopped s.phase.withStartup) := rfl
  have resetAssert : exec .resetAssert s = .next (stopped s.phase.withReset) := rfl
  have start (ph : Phase) : s.start straps ph = started ph := s.start_eq straps ph
  have startup : exec (.startupComplete straps) s = execStartupComplete straps s := rfl
  have release : exec (.resetRelease straps) s = execResetRelease straps s := rfl
  rw [powerOn, resetAssert, startup, release, execStartupComplete, execResetRelease]
  simp only [start]
  cases hphase : s.phase <;> simp [Phase.withStartup, Phase.withReset]

end Sys2Proof.Machine
end

section
/-! PROOFS. Attention outputs follow flags and masks, and notices name defined contexts (R40, R136, R177, R181): the
changes that touch neither, the invariant while the part operates, and the operations that keep it. -/

namespace Sys2Proof.Machine

/-! ### One port's events -/

/-- The attention output is asserted exactly where flags and mask share a member (R181). -/
def PortEvents.Synced (e : PortEvents) : Prop := e.attention = (e.flags &&& e.mask != 0)

theorem PortEvents.sync_synced (e : PortEvents) : e.sync.Synced := rfl

theorem PortEvents.raise_synced (e : PortEvents) (f : FlagSet) : (e.raise f).Synced := sync_synced _

theorem PortEvents.clear_synced (e : PortEvents) (f : FlagSet) : (e.clear f).Synced := sync_synced _

theorem PortEvents.setMask_synced (e : PortEvents) (m : FlagSet) : (e.setMask m).Synced := sync_synced _

theorem PortEvents.post_synced (e : PortEvents) (c : ContextId) (o : Ending) : (e.post c o).Synced := raise_synced ..

theorem PortEvents.Synced.withCompletions {e : PortEvents} (h : e.Synced) (entries : Vector (Option Ending) 32) :
    ({ e with completions := entries } : PortEvents).Synced := h

theorem PortEvents.initial_synced : PortEvents.initial.Synced := by unfold PortEvents.Synced; decide

theorem PortEvents.initial_completions (c : ContextId) : PortEvents.initial.completions[c] = none := replicate_get ..

theorem PortEvents.emptied_completions (e : PortEvents) (c : ContextId) : e.emptied.completions[c] = none :=
  replicate_get ..

theorem PortEvents.post_completions (e : PortEvents) (c d : ContextId) (o : Ending) :
    (e.post c o).completions[d] = if d = c then some o else e.completions[d] := update_get ..

/-! ### Changes that leave flags, masks and notices as they are -/

/-- From `s` to `t` the phase and the events stand, no slot becomes FREE, and no line names another context as last
started. -/
structure Unnoticed (s t : State) : Prop where
  phase : t.phase = s.phase
  events : t.events = s.events
  defined : ∀ c, (s.ctx c).isSome = true → (t.ctx c).isSome = true
  started : ∀ l c, (t.line l).lastStarted = some c → (s.line l).lastStarted = some c

theorem Unnoticed.eventsAt {s t : State} (h : Unnoticed s t) (p : PortId) : t.eventsAt p = s.eventsAt p := by
  simp [State.eventsAt, h.events]

theorem Unnoticed.trans {s t u : State} (h : Unnoticed s t) (h' : Unnoticed t u) : Unnoticed s u :=
  ⟨h'.phase.trans h.phase, h'.events.trans h.events, fun c hc => h'.defined c (h.defined c hc),
    fun l c hl => h.started l c (h'.started l c hl)⟩

/-- The change of a block that holds no events, contexts or lines. -/
theorem Unnoticed.of_blocks {s t : State} (phase : t.phase = s.phase) (events : t.events = s.events)
    (contexts : t.contexts = s.contexts) (lines : t.lines = s.lines) : Unnoticed s t := by
  refine ⟨phase, events, fun c hc => ?_, fun l c hl => ?_⟩
  · rwa [State.ctx, contexts]
  · rwa [State.line, lines] at hl

theorem Unnoticed.refl (s : State) : Unnoticed s s := .of_blocks rfl rfl rfl rfl

theorem Unnoticed.modPort (s : State) (p : PortId) (f : Port → Port) : Unnoticed s (s.modPort p f) :=
  .of_blocks rfl rfl rfl rfl

theorem Unnoticed.answer (s : State) (p : PortId) (code : Byte) (st : Status) (rs : List Byte) :
    Unnoticed s (s.answer p code st rs) := .modPort ..

theorem Unnoticed.refuse (s : State) (p : PortId) (code : Byte) (st : Status) : Unnoticed s (s.refuse p code st) :=
  .answer ..

theorem Unnoticed.modCtx (s : State) (c : ContextId) (f : Context → Context) : Unnoticed s (s.modCtx c f) :=
  ⟨rfl, rfl, fun _ hd => (s.modCtx_ctx_isSome ..).trans hd, fun _ _ hl => hl⟩

theorem Unnoticed.define (s : State) (c : ContextId) (k : Context) : Unnoticed s (s.setCtx c (some k)) := by
  refine ⟨rfl, rfl, fun d hd => ?_, fun _ _ hl => hl⟩
  rw [State.setCtx_ctx]
  split
  · rfl
  · exact hd

/-- A line is rewritten, and names no other context as last started. -/
theorem Unnoticed.modLine {s : State} {l : LineId} {f : Line → Line}
    (hf : ∀ c, (f (s.line l)).lastStarted = some c → (s.line l).lastStarted = some c) :
    Unnoticed s (s.modLine l f) := by
  refine ⟨rfl, rfl, fun _ hc => hc, fun m c hm => ?_⟩
  rw [State.modLine_line] at hm
  split at hm
  · rename_i hml
    rw [hml]
    exact hf c hm
  · exact hm

/-- A line that is configured names no context (R138). -/
theorem Unnoticed.configure (s : State) (l : LineId) (cfg : LineConfig) :
    Unnoticed s (s.modLine l fun _ => Line.configured cfg) := .modLine nofun

theorem Unnoticed.withdraw (s : State) (w : ContextId → Bool) : Unnoticed s (s.withdraw w) :=
  ⟨s.withdraw_phase w, s.withdraw_events w, fun c hc => (s.withdraw_ctx_isSome w c).trans hc,
    fun l _ hl => by rwa [State.withdraw_line] at hl⟩

theorem Unnoticed.accept (s : State) (c : ContextId) (kind : GateKind) (who : Starter) :
    Unnoticed s (s.accept c kind who) :=
  ⟨s.accept_phase c kind who, s.accept_events c kind who, fun d hd => (s.accept_ctx_isSome c d kind who).trans hd,
    fun l _ hl => by rwa [State.accept_line] at hl⟩

theorem Unnoticed.zeroUnderTest (s : State) : Unnoticed s s.zeroUnderTest := by
  unfold State.zeroUnderTest
  split <;> exact .of_blocks rfl rfl rfl rfl

theorem Unnoticed.modCheck (s : State) (f : CheckRecord → CheckRecord) : Unnoticed s (s.modCheck f) :=
  .of_blocks rfl rfl rfl rfl

theorem Unnoticed.closeCheck (s : State) : Unnoticed s s.closeCheck := by
  unfold State.closeCheck
  exact .of_blocks rfl rfl rfl rfl

theorem Unnoticed.acceptCheck (s : State) (p : PortId) (pages : PageSet) (q : StepRequest) :
    Unnoticed s (s.acceptCheck p pages q) := by
  unfold State.acceptCheck
  exact .of_blocks rfl rfl rfl rfl

theorem Unnoticed.judgePage (s : State) (g : PhysicalPage) (o : TestOutcome) : Unnoticed s (s.judgePage g o) := by
  cases o <;> exact .of_blocks rfl rfl rfl rfl

theorem Unnoticed.judgePair (s : State) (a b : PhysicalPage) (o : TestOutcome) :
    Unnoticed s (s.judgePair a b o) := by
  cases o <;> exact .of_blocks rfl rfl rfl rfl

theorem Unnoticed.resumeContext (s : State) (c : ContextId) : Unnoticed s (s.resumeContext c) := by
  have left : Unnoticed s { s with heldSet := s.heldSet.filter fun d => d ≠ c } := .of_blocks rfl rfl rfl rfl
  unfold State.resumeContext
  dsimp only
  split
  · exact (left.trans (.modCtx _ c _)).trans (.of_blocks rfl rfl rfl rfl)
  · exact (left.trans (.modCtx _ c _)).trans (.of_blocks rfl rfl rfl rfl)

/-! ### The invariant -/

/-- Each attention output follows flags and mask, and notices and last-started fields name defined contexts. -/
structure EventsHold (s : State) : Prop where
  attention : AttentionFollows s
  named : NoticesNamed s

/-- `EventsHold` of a part that operates, where every attention output agrees with flags and mask. -/
structure EventsServed (s : State) : Prop where
  operating : s.phase = .operating
  synced : ∀ p, (s.eventsAt p).Synced
  named : NoticesNamed s

theorem EventsServed.hold {s : State} (h : EventsServed s) : EventsHold s := by
  refine ⟨fun p => ?_, h.named⟩
  rw [h.operating, decide_eq_true rfl, Bool.true_and]
  exact h.synced p

theorem EventsHold.served {s : State} (h : EventsHold s) (hphase : s.phase = .operating) : EventsServed s := by
  refine ⟨hphase, fun p => ?_, h.named⟩
  have follows := h.attention p
  rwa [hphase, decide_eq_true rfl, Bool.true_and] at follows

theorem NoticesNamed.of_unnoticed {s t : State} (h : NoticesNamed s) (hst : Unnoticed s t) : NoticesNamed t := by
  obtain ⟨noticed, started⟩ := h
  refine ⟨fun p c hc => hst.defined c (noticed p c ?_), fun l c hl => hst.defined c (started l c (hst.started l c hl))⟩
  rwa [hst.eventsAt] at hc

theorem EventsHold.of_unnoticed {s t : State} (h : EventsHold s) (hst : Unnoticed s t) : EventsHold t := by
  refine ⟨fun p => ?_, h.named.of_unnoticed hst⟩
  rw [hst.eventsAt, hst.phase]
  exact h.attention p

theorem EventsServed.of_unnoticed {s t : State} (h : EventsServed s) (hst : Unnoticed s t) : EventsServed t := by
  refine ⟨hst.phase.trans h.operating, fun p => ?_, h.named.of_unnoticed hst⟩
  rw [hst.eventsAt]
  exact h.synced p

theorem EventsServed.answer {s : State} (h : EventsServed s) (p : PortId) (code : Byte) (st : Status)
    (rs : List Byte) : EventsServed (s.answer p code st rs) := h.of_unnoticed (.answer ..)

theorem EventsServed.refuse {s : State} (h : EventsServed s) (p : PortId) (code : Byte) (st : Status) :
    EventsServed (s.refuse p code st) := h.answer ..

/-! ### Changes to the events -/

/-- The events are rewritten alone: synced, with notices for defined contexts. -/
theorem EventsServed.of_events {s t : State} (h : EventsServed s) (phase : t.phase = s.phase)
    (contexts : t.contexts = s.contexts) (lines : t.lines = s.lines) (synced : ∀ p, (t.eventsAt p).Synced)
    (noticed : ∀ p c, ((t.eventsAt p).completions[c]).isSome = true → (s.ctx c).isSome = true) : EventsServed t := by
  obtain ⟨-, started⟩ := h.named
  refine ⟨phase.trans h.operating, synced, fun p c hc => ?_, fun l c hl => ?_⟩
  · rw [State.ctx, contexts]
    exact noticed p c hc
  · rw [State.line, lines] at hl
    rw [State.ctx, contexts]
    exact started l c hl

theorem EventsServed.modEvents {s : State} (h : EventsServed s) {p : PortId} {f : PortEvents → PortEvents}
    (synced : (f (s.eventsAt p)).Synced)
    (noticed : ∀ c : ContextId, ((f (s.eventsAt p)).completions[c]).isSome = true →
      ((s.eventsAt p).completions[c]).isSome = true) : EventsServed (s.modEvents p f) := by
  obtain ⟨named, -⟩ := h.named
  refine h.of_events rfl rfl rfl (fun q => ?_) fun q c hc => ?_
  · rw [State.modEvents_eventsAt]
    split
    · exact synced
    · exact h.synced q
  · rw [State.modEvents_eventsAt] at hc
    split at hc
    · exact named p c (noticed c hc)
    · exact named q c hc

theorem EventsServed.raiseAt {s : State} (h : EventsServed s) (which : PortId → Bool) (f : FlagSet) :
    EventsServed (s.raiseAt which f) := by
  obtain ⟨named, -⟩ := h.named
  refine h.of_events rfl rfl rfl (fun p => ?_) fun p c hc => ?_
  · rw [State.raiseAt_eventsAt]
    split
    · exact PortEvents.raise_synced ..
    · exact h.synced p
  · rw [State.raiseAt_eventsAt] at hc
    split at hc <;> exact named p c hc

/-- A FREE slot has no notice ports, so that a notice posted names a defined context (R179). -/
theorem State.ctx_isSome_of_noticePorts {s : State} {c : ContextId} {p : PortId} (h : s.noticePorts c p = true) :
    (s.ctx c).isSome = true := by
  unfold State.noticePorts at h
  split at h
  · cases h
  · rename_i hk
    rw [hk]
    rfl

theorem EventsServed.postNotice {s : State} (h : EventsServed s) (c : ContextId) (o : Ending) :
    EventsServed (s.postNotice c o) := by
  obtain ⟨named, -⟩ := h.named
  refine h.of_events rfl rfl rfl (fun p => ?_) fun p d hd => ?_
  · rw [State.postNotice_eventsAt]
    split
    · exact PortEvents.post_synced ..
    · exact h.synced p
  · rw [State.postNotice_eventsAt] at hd
    split at hd
    · rename_i hposted
      rw [PortEvents.post_completions] at hd
      split at hd
      · rename_i hdc
        rw [hdc]
        exact State.ctx_isSome_of_noticePorts hposted
      · exact named p d hd
    · exact named p d hd

/-- Slots become FREE with the notices for them, and no line names them (R39, R40, R136). -/
theorem EventsServed.freeSlots {s : State} (h : EventsServed s) (w : ContextId → Bool) :
    EventsServed (s.freeSlots w) := by
  obtain ⟨noticed, started⟩ := h.named
  have defined {c : ContextId} (hc : (s.ctx c).isSome = true) (hkept : ¬w c = true) :
      ((s.freeSlots w).ctx c).isSome = true := by rwa [State.freeSlots_ctx, if_neg hkept]
  refine ⟨(s.freeSlots_phase w).trans h.operating, fun p => ?_, fun p c hc => ?_, fun l c hl => ?_⟩
  · rw [State.freeSlots_eventsAt]
    exact (h.synced p).withCompletions _
  · rw [State.freeSlots_eventsAt] at hc
    dsimp only at hc
    rw [ofFn_get] at hc
    split at hc
    · cases hc
    · rename_i hkept
      exact defined (noticed p c hc) hkept
  · rw [State.freeSlots_line] at hl
    obtain ⟨hstarted, hkept⟩ := Option.filter_eq_some_iff.mp hl
    exact defined (started l c hstarted) (by simpa using hkept)

/-! ### The service pass (R130 to R134) -/

theorem EventsServed.serveLine {s : State} (h : EventsServed s) (l : LineId) : EventsServed (s.serveLine l) := by
  unfold State.serveLine
  split
  · rename_i g hg
    obtain ⟨-, -, k, hk, -⟩ := State.checkInvocation_ok hg
    have defined : (s.ctx g.context).isSome = true := by rw [hk]; rfl
    have accepted := h.of_unnoticed (.accept s g.context g.kind (.line l))
    obtain ⟨noticed, started⟩ := accepted.named
    refine ⟨accepted.operating, accepted.synced, noticed, fun m c hm => ?_⟩
    rw [State.modLine_line] at hm
    split at hm
    · cases hm
      exact (s.accept_ctx_isSome ..).trans defined
    · exact started m c hm
  · split
    · exact h.of_unnoticed (.modLine fun _ hc => hc)
    · exact (h.of_unnoticed (.modLine fun _ hc => hc)).raiseAt ..

theorem EventsServed.servicePass {s : State} (h : EventsServed s) : EventsServed s.servicePass :=
  servicePass_invariant (fun _ l hs => hs.serveLine l) h

theorem EventsServed.serviceIf {s : State} (h : EventsServed s) (opportunity : Bool) :
    EventsServed (s.serviceIf opportunity) := by
  unfold State.serviceIf
  split
  · exact h.servicePass
  · exact h

/-! ### The end of a context's run, and the element step -/

/-- A context ends, its notices are posted, and a service pass is made (R71, R75, R81). -/
theorem EventsServed.endContext {s : State} (h : EventsServed s) (c : ContextId) (f : Context → Context)
    (o : Ending) : EventsServed (((s.modCtx c f).withdraw (· = c)).postNotice c o).servicePass :=
  ((h.of_unnoticed (.trans (.modCtx ..) (.withdraw ..))).postNotice c o).servicePass

theorem EventsServed.faultContext {s : State} (h : EventsServed s) (c : ContextId) (cause : FaultCause) :
    EventsServed (s.faultContext c cause) := h.endContext ..

theorem EventsServed.wordCheckFailure {s : State} (h : EventsServed s) (g : PhysicalPage) :
    EventsServed (s.wordCheckFailure g) := by
  have failed : Unnoticed s (s.modFaults g fun f => { f with word := true }) := .of_blocks rfl rfl rfl rfl
  unfold State.wordCheckFailure
  split
  · exact h
  · exact (h.of_unnoticed failed).raiseAt ..

theorem EventsServed.finishStep {s : State} (h : EventsServed s) (c : ContextId) (k : Context) (r : StepResult) :
    EventsServed (s.finishStep c k r) := by
  have stored : Unnoticed s (s.writeResults k.owner r.writes) := .of_blocks rfl rfl rfl rfl
  have written := h.of_unnoticed (stored.trans (.modCtx _ c fun x => x.advanced r))
  unfold State.finishStep
  dsimp only
  split
  · exact written.endContext ..
  · exact written

theorem EventsServed.stepContext {s : State} (h : EventsServed s) (c : ContextId) (k : Context)
    (failingRead : Option Nat) : EventsServed (s.stepContext c k failingRead) := by
  unfold State.stepContext
  split
  · exact h.faultContext ..
  · split
    · exact (h.wordCheckFailure _).faultContext ..
    · split
      · exact h.faultContext ..
      · exact h.finishStep ..

theorem EventsServed.elementStep {s : State} (h : EventsServed s) (failingRead : Option Nat) :
    EventsServed (s.elementStep failingRead) := by
  unfold State.elementStep
  split
  · exact h
  · split
    · exact h
    · exact h.stepContext ..

/-! ### The store check -/

theorem EventsServed.endCheck {s : State} (h : EventsServed s) : EventsServed s.endCheck :=
  (((h.of_unnoticed (.closeCheck s)).raiseAt ..).raiseAt ..).servicePass

theorem EventsServed.modCheck {s : State} (h : EventsServed s) (f : CheckRecord → CheckRecord) :
    EventsServed (s.modCheck f) := h.of_unnoticed (.modCheck ..)

theorem EventsServed.takePair {s : State} (h : EventsServed s) (next : Option (PhysicalPage × PhysicalPage)) :
    EventsServed (s.takePair next) := by
  unfold State.takePair
  split
  · exact h.modCheck _
  · exact h.endCheck

theorem EventsServed.afterPattern {s : State} (h : EventsServed s) : EventsServed s.afterPattern := by
  unfold State.afterPattern
  split
  · exact h.takePair _
  · exact h.endCheck

theorem EventsServed.nextPageTest {s : State} (h : EventsServed s) : EventsServed s.nextPageTest := by
  unfold State.nextPageTest
  split
  · exact h.modCheck _
  · exact h.afterPattern

theorem EventsServed.afterReference {s : State} (h : EventsServed s) : EventsServed s.afterReference := by
  unfold State.afterReference
  split
  · exact h.nextPageTest
  · exact h.afterPattern

theorem EventsServed.referenceFailed {s : State} (h : EventsServed s) : EventsServed s.referenceFailed := by
  unfold State.referenceFailed
  refine EventsServed.endCheck (EventsServed.raiseAt (h.of_unnoticed ?_) ..)
  exact .of_blocks rfl rfl rfl rfl

theorem EventsServed.completeReference {s : State} (h : EventsServed s) (o : TestOutcome) :
    EventsServed (s.completeReference o) := by
  unfold State.completeReference
  split
  · exact (h.modCheck _).afterReference
  · exact h.referenceFailed
  · exact h

theorem EventsServed.completePage {s : State} (h : EventsServed s) (o : TestOutcome) :
    EventsServed (s.completePage o) := by
  unfold State.completePage
  split
  · exact (h.of_unnoticed (.judgePage ..)).nextPageTest
  · exact h

theorem EventsServed.completePair {s : State} (h : EventsServed s) (o : TestOutcome) :
    EventsServed (s.completePair o) := by
  unfold State.completePair
  split
  · exact (h.of_unnoticed (.judgePair ..)).takePair _
  · exact h

end Sys2Proof.Machine
end

section
/-! PROOFS. Every command keeps each attention output following flags and mask, and notices to defined contexts. -/

namespace Sys2Proof.Machine

/-! ### Commands that leave flags, masks and notices as they are -/

/-- Whether a command can change events, free a slot, or give lines a service opportunity. -/
def touchesEvents : Instr → Bool
  | .portReset .. | .deviceRestart .. | .clearContext .. | .freeContext .. | .writeGate .. | .hold .. | .abort ..
  | .startCheck .. | .abortCheck .. | .clearEvents .. | .setAttention .. | .readCompletions .. => true
  | _ => false

/-- Every other command only answers, starts a data run, or rewrites one record of its own block. -/
theorem runCommand_unnoticed (i : Instr) (s : State) (h : touchesEvents i = false) : Unnoticed s (runCommand i s) := by
  cases i with
  | portReset | deviceRestart | clearContext | freeContext | writeGate | hold | abort | startCheck | abortCheck
  | clearEvents | setAttention | readCompletions => cases h
  | echo p data =>
    show Unnoticed s (takeEcho p data s)
    unfold takeEcho
    split
    · exact .refuse ..
    · exact .answer ..
  | setPort p timeout => exact .trans (.modPort ..) (.answer ..)
  | writeMap p fs =>
    show Unnoticed s (takeWriteMap p fs s)
    unfold takeWriteMap
    split <;> exact .of_blocks rfl rfl rfl rfl
  | readMap p target =>
    show Unnoticed s (takeReadMap p target s)
    unfold takeReadMap
    split
    · exact .refuse ..
    · exact .answer ..
  | translate p page =>
    show Unnoticed s (takeTranslate p page s)
    unfold takeTranslate
    split
    · exact .refuse ..
    · exact .answer ..
  | readWords p page offset count =>
    show Unnoticed s (takeReadWords p page offset count s)
    unfold takeReadWords
    split
    · exact .refuse ..
    · split
      · exact .refuse ..
      · exact .modPort ..
  | writeWords p page offset count words =>
    show Unnoticed s (takeWriteWords p page offset count words s)
    unfold takeWriteWords
    split
    · exact .refuse ..
    · split
      · exact .refuse ..
      · exact .modPort ..
  | clearFaults p pages kinds off =>
    have cleared : Unnoticed s (s.clearFaults pages kinds off) := by
      unfold State.clearFaults
      exact .of_blocks rfl rfl rfl rfl
    show Unnoticed s (takeClearFaults p pages kinds off s)
    unfold takeClearFaults
    split
    · exact .refuse ..
    · exact cleared.trans (.answer ..)
  | defineContext p slot block =>
    show Unnoticed s (takeDefineContext p slot block s)
    unfold takeDefineContext
    split
    · exact .refuse ..
    · exact .trans (.define ..) (.answer ..)
  | setParams p slot block =>
    show Unnoticed s (takeSetParams p slot block s)
    unfold takeSetParams
    split
    · exact .refuse ..
    · exact .trans (.modCtx ..) (.answer ..)
  | readContext p slot =>
    show Unnoticed s (takeReadContext p slot s)
    unfold takeReadContext
    split
    · exact .refuse ..
    · exact .answer ..
  | readGate p first count =>
    show Unnoticed s (takeReadGate p first count s)
    unfold takeReadGate
    split
    · exact .refuse ..
    · exact .answer ..
  | invoke p gate =>
    show Unnoticed s (takeInvoke p gate s)
    unfold takeInvoke
    split
    · exact .refuse ..
    · exact .trans (.accept ..) (.answer ..)
  | resume p slot =>
    show Unnoticed s (takeResume p slot s)
    unfold takeResume
    split
    · exact .refuse ..
    · split
      · exact .trans (.resumeContext ..) (.answer ..)
      · exact .refuse ..
  | configLine p line fields =>
    show Unnoticed s (takeConfigLine p line fields s)
    unfold takeConfigLine
    split
    · exact .refuse ..
    · exact .trans (.configure ..) (.answer ..)
  | clearLine p line =>
    show Unnoticed s (takeClearLine p line s)
    unfold takeClearLine
    split
    · exact .refuse ..
    · exact .trans (.modLine fun _ hc => hc) (.answer ..)
  | setTimer p reload run =>
    show Unnoticed s (takeSetTimer p reload run s)
    unfold takeSetTimer
    split <;> exact .of_blocks rfl rfl rfl rfl
  | readPageFaults | readRun | readLines | readCheck | readEvents => exact .answer ..
  | select | deselect | byteExchange | receiveTimerExpiry | dataRunWordAccess | elementStep | pinLevelChange
  | debounceExpiry | validationExpiry | intervalTimerExpiry | referenceTestComplete | pageTestComplete
  | pairTestComplete | powerOn | startupComplete | resetAssert | resetRelease | remainingCountFalls => exact .refl s

/-! ### Resets -/

/-- At their defaults events and lines name no context, and every attention output is deasserted (R143, R186). -/
theorem EventsHold.of_defaults {s : State} (hevents : s.events = Vector.replicate 4 PortEvents.initial)
    (hlines : s.lines = Vector.replicate 8 Line.initial) : EventsHold s := by
  have events (p : PortId) : s.eventsAt p = .initial := by rw [State.eventsAt, hevents, replicate_get]
  have line (l : LineId) : s.line l = .initial := by rw [State.line, hlines, replicate_get]
  refine ⟨fun p => ?_, fun p c hc => ?_, fun l c hl => ?_⟩
  · rw [events p]
    exact (Bool.and_false _).symm
  · rw [events p, PortEvents.initial_completions] at hc
    cases hc
  · rw [line l] at hl
    cases hl

theorem EventsHold.start (s : State) (straps : Vector Level 4) (ph : Phase) : EventsHold (s.start straps ph) :=
  .of_defaults rfl rfl

theorem EventsHold.stop {s : State} (h : EventsHold s) {ph : Phase} (hph : ph ≠ .operating) :
    EventsHold (s.stop ph) := by
  obtain ⟨noticed, started⟩ := h.named
  refine ⟨fun p => ?_, fun p c hc => ?_, started⟩
  · rw [State.stop_eventsAt, State.stop_phase, decide_eq_false hph, Bool.false_and]
  · rw [State.stop_eventsAt] at hc
    exact noticed p c hc

theorem EventsServed.restart {s : State} (h : EventsServed s) (p : PortId) : EventsServed (s.restart p) := by
  have phase : (s.restart p).phase = s.phase := by rw [s.restart_eq p]
  exact (EventsHold.of_defaults rfl rfl).served (phase.trans h.operating)

/-- A line released by a reset keeps its last-started field (R173). -/
theorem Line.releasedFrom_lastStarted (n : Line) (q : PortId) : (n.releasedFrom q).lastStarted = n.lastStarted := by
  unfold Line.releasedFrom
  split <;> rfl

/-- A port's contexts are freed with the notices for them, and its own events return to their defaults (R173). -/
theorem EventsServed.resetPort {s : State} (h : EventsServed s) (p q : PortId) : EventsServed (s.resetPort p q) := by
  have freed : EventsServed (s.freedOf q) := (h.of_unnoticed (.withdraw ..)).freeSlots _
  have events (x : PortId) :
      (s.resetPort p q).eventsAt x = if x = q then PortEvents.initial else (s.freedOf q).eventsAt x := update_get ..
  have line (l : LineId) : (s.resetPort p q).line l = ((s.freedOf q).line l).releasedFrom q := ofFn_get ..
  have phase : (s.resetPort p q).phase = s.phase := by rw [State.resetPort_frame]
  obtain ⟨noticed, started⟩ := freed.named
  refine ⟨phase.trans h.operating, fun x => ?_, fun x c hc => ?_, fun l c hl => ?_⟩
  · rw [events x]
    split
    · exact PortEvents.initial_synced
    · exact freed.synced x
  · rw [State.resetPort_ctx]
    rw [events x] at hc
    split at hc
    · rw [PortEvents.initial_completions] at hc
      cases hc
    · exact noticed x c hc
  · rw [State.resetPort_ctx]
    rw [line l, Line.releasedFrom_lastStarted] at hl
    exact started l c hl

theorem EventsServed.takePortReset {s : State} (h : EventsServed s) (p : PortId) (target : Byte) :
    EventsServed (takePortReset p target s) := by
  unfold Machine.takePortReset
  split
  · exact h.refuse ..
  · exact ((h.resetPort ..).answer ..).serviceIf _

theorem EventsServed.takeDeviceRestart {s : State} (h : EventsServed s) (p : PortId) :
    EventsServed (takeDeviceRestart p s) := by
  unfold Machine.takeDeviceRestart
  split
  · exact h.refuse ..
  · exact (h.restart p).answer ..

/-! ### Contexts, gates and the check -/

theorem EventsServed.takeClearContext {s : State} (h : EventsServed s) (p : PortId) (slot : Byte) :
    EventsServed (takeClearContext p slot s) := by
  unfold Machine.takeClearContext
  split
  · exact h.refuse ..
  · exact (h.of_unnoticed (.modCtx ..)).servicePass.answer ..

theorem EventsServed.takeFreeContext {s : State} (h : EventsServed s) (p : PortId) (slot : Byte) :
    EventsServed (takeFreeContext p slot s) := by
  unfold Machine.takeFreeContext
  split
  · exact h.refuse ..
  · exact (h.freeSlots _).answer ..

theorem EventsServed.takeWriteGate {s : State} (h : EventsServed s) (p : PortId) (gate : Byte) (present : Bool)
    (f : GateFields) : EventsServed (takeWriteGate p gate present f s) := by
  unfold Machine.takeWriteGate
  split
  · exact h.refuse ..
  · rename_i g record _
    have written : Unnoticed s { s with gates := update s.gates g record } := .of_blocks rfl rfl rfl rfl
    exact (h.of_unnoticed written).servicePass.answer ..

theorem EventsServed.holdContext {s : State} (h : EventsServed s) (c : ContextId) : EventsServed (s.holdContext c) := by
  have left := h.of_unnoticed (.trans (.modCtx s c fun k => { k with state := .held, nested := false })
    (.withdraw _ (· = c)))
  unfold State.holdContext
  refine EventsServed.serviceIf (left.of_unnoticed ?_) _
  exact .of_blocks rfl rfl rfl rfl

theorem EventsServed.takeHold {s : State} (h : EventsServed s) (p : PortId) (slot : Byte) :
    EventsServed (takeHold p slot s) := by
  unfold Machine.takeHold
  split
  · exact h.refuse ..
  · split
    · exact (h.holdContext _).answer ..
    · split
      · exact (h.holdContext _).answer ..
      · exact h.refuse ..
    all_goals exact h.refuse ..

theorem EventsServed.takeAbort {s : State} (h : EventsServed s) (p : PortId) (slot : Byte) :
    EventsServed (takeAbort p slot s) := by
  unfold Machine.takeAbort
  split
  · exact h.refuse ..
  · split
    · exact (h.faultContext ..).answer ..
    · exact h.refuse ..

theorem EventsServed.takeStartCheck {s : State} (h : EventsServed s) (p : PortId) (pages : PageSet)
    (q : StepRequest) : EventsServed (takeStartCheck p pages q s) := by
  have accepted : EventsServed (s.acceptCheck p pages q) := h.of_unnoticed (.acceptCheck ..)
  unfold Machine.takeStartCheck
  split
  · exact h.refuse ..
  · refine EventsServed.answer ?_ ..
    split
    · exact accepted.endCheck
    · exact accepted

theorem EventsServed.takeAbortCheck {s : State} (h : EventsServed s) (p : PortId) :
    EventsServed (takeAbortCheck p s) := by
  unfold Machine.takeAbortCheck
  split
  · exact h.refuse ..
  · exact ((h.of_unnoticed (.zeroUnderTest s)).modCheck _).endCheck.answer ..

/-! ### The commands of the Event Unit (R183 to R185) -/

theorem EventsServed.takeClearEvents {s : State} (h : EventsServed s) (p : PortId) (flags : Byte) :
    EventsServed (takeClearEvents p flags s) := by
  unfold Machine.takeClearEvents
  split
  · exact h.refuse ..
  · rename_i f _
    have cleared : EventsServed (s.modEvents p fun e => e.clear f) :=
      h.modEvents (PortEvents.clear_synced ..) fun _ hc => hc
    exact cleared.answer ..

theorem EventsServed.takeSetAttention {s : State} (h : EventsServed s) (p : PortId) (mask : Byte) :
    EventsServed (takeSetAttention p mask s) := by
  unfold Machine.takeSetAttention
  split
  · exact h.refuse ..
  · rename_i m _
    have masked : EventsServed (s.modEvents p fun e => e.setMask m) :=
      h.modEvents (PortEvents.setMask_synced ..) fun _ hc => hc
    exact masked.answer ..

theorem EventsServed.takeReadCompletions {s : State} (h : EventsServed s) (p : PortId) :
    EventsServed (takeReadCompletions p s) := by
  have emptied : EventsServed (s.modEvents p PortEvents.emptied) :=
    h.modEvents (PortEvents.clear_synced ..) fun c hc => by
      rw [PortEvents.emptied_completions] at hc
      cases hc
  exact emptied.answer ..

/-! ### Every command -/

theorem EventsServed.runCommand {s : State} (h : EventsServed s) (i : Instr) : EventsServed (runCommand i s) := by
  cases i with
  | portReset p target => exact h.takePortReset p target
  | deviceRestart p => exact h.takeDeviceRestart p
  | clearContext p slot => exact h.takeClearContext p slot
  | freeContext p slot => exact h.takeFreeContext p slot
  | writeGate p gate present fields => exact h.takeWriteGate p gate present fields
  | hold p slot => exact h.takeHold p slot
  | abort p slot => exact h.takeAbort p slot
  | startCheck p pages request => exact h.takeStartCheck p pages request
  | abortCheck p => exact h.takeAbortCheck p
  | clearEvents p flags => exact h.takeClearEvents p flags
  | setAttention p mask => exact h.takeSetAttention p mask
  | readCompletions p => exact h.takeReadCompletions p
  | _ => exact h.of_unnoticed (runCommand_unnoticed _ s rfl)

end Sys2Proof.Machine
end

section
/-! PROOFS. Every event, and so every step, keeps each attention output following flags and mask, and notices to
defined contexts. -/

namespace Sys2Proof.Machine

/-! ### Frames and data runs (R13, R14, R163 to R166) -/

theorem EventsServed.modPort {s : State} (h : EventsServed s) (p : PortId) (f : Port → Port) :
    EventsServed (s.modPort p f) := h.of_unnoticed (.modPort ..)

theorem EventsServed.takeFrame {s : State} (h : EventsServed s) (p : PortId) (frame : List Byte) :
    EventsServed (takeFrame p frame s) := by
  unfold Machine.takeFrame
  split
  · exact h.runCommand _
  · exact h.refuse ..

theorem EventsServed.frameCompleted {s : State} (h : EventsServed s) (p : PortId) (frame : List Byte) :
    EventsServed (frameCompleted p frame s) := by
  unfold Machine.frameCompleted
  split
  · exact h.takeFrame p frame
  · exact h.modPort ..

theorem EventsServed.takeLength {s : State} (h : EventsServed s) (p : PortId) (b : Byte) :
    EventsServed (s.takeLength p b) := by
  unfold State.takeLength
  split_ifs
  · exact h
  · exact (h.modPort ..).refuse ..
  · exact h.modPort ..

theorem EventsServed.addByte {s : State} (h : EventsServed s) (p : PortId) (length : Nat) (frame : List Byte) :
    EventsServed (s.addByte p length frame) := by
  unfold State.addByte
  split
  · exact (h.modPort ..).frameCompleted ..
  · exact h.modPort ..

theorem EventsServed.takeIn {s : State} (h : EventsServed s) (p : PortId) (b : Byte) : EventsServed (s.takeIn p b) := by
  unfold State.takeIn
  split
  · exact h.takeLength p b
  · exact h
  · exact h.addByte ..
  · exact h

theorem EventsServed.endRun {s : State} (h : EventsServed s) (p : PortId) (code : Byte) (st : Status)
    (rs : List Byte) : EventsServed (s.endRun p code st rs) := by
  have ended : EventsServed (s.runEnded p code st rs) := (h.modPort ..).answer ..
  show EventsServed ((s.runEnded p code st rs).takeKept p)
  unfold State.takeKept
  split
  · exact ended
  · exact (ended.modPort ..).takeFrame ..

theorem EventsServed.accessRead {s : State} (h : EventsServed s) (p : PortId) (fails : Bool) (a : LogicalAddress)
    (left : Nat) (got : List Word) : EventsServed (s.accessRead p fails a left got) := by
  unfold State.accessRead
  split
  · exact h.endRun ..
  · dsimp only
    split_ifs
    · exact (h.wordCheckFailure _).endRun ..
    · exact h.endRun ..
    · exact h.modPort ..

theorem EventsServed.accessWrite {s : State} (h : EventsServed s) (p : PortId) (a : LogicalAddress)
    (rest : List Word) (written : Nat) : EventsServed (s.accessWrite p a rest written) := by
  have stored (m : Memory) : EventsServed { s with words := m } := h.of_unnoticed (.of_blocks rfl rfl rfl rfl)
  unfold State.accessWrite
  split
  · exact h.endRun ..
  · split
    · exact h.endRun ..
    · dsimp only
      split_ifs
      · exact (stored _).endRun ..
      · exact (stored _).modPort ..

theorem EventsServed.accessWord {s : State} (h : EventsServed s) (p : PortId) (fails : Bool) :
    EventsServed (s.accessWord p fails) := by
  unfold State.accessWord
  split
  · exact h
  · exact h.accessRead ..
  · exact h.accessWrite ..

/-! ### Lines and the interval timer (R124 to R129, R141) -/

/-- A line that is rewritten and keeps its last-started field. -/
theorem EventsServed.modLine {s : State} (h : EventsServed s) {l : LineId} {f : Line → Line}
    (hf : (f (s.line l)).lastStarted = (s.line l).lastStarted) : EventsServed (s.modLine l f) :=
  h.of_unnoticed (.modLine fun _ hc => hf.symm.trans hc)

theorem EventsServed.enterPending {s : State} (h : EventsServed s) (l : LineId) : EventsServed (s.enterPending l) :=
  EventsServed.servicePass (h.modLine rfl)

theorem EventsServed.qualifyingEdge {s : State} (h : EventsServed s) (l : LineId) :
    EventsServed (s.qualifyingEdge l) := by
  unfold State.qualifyingEdge
  split_ifs
  · exact h.modLine rfl
  · exact h.modLine rfl
  · exact h.enterPending l

theorem EventsServed.pinChanged {s : State} (h : EventsServed s) (l : LineId) (level : PinLevel) :
    EventsServed (s.pinChanged l level) := by
  unfold State.pinChanged
  split
  · split_ifs
    · exact h.qualifyingEdge l
    · exact h
  · split_ifs
    · exact h
    · exact h.modLine rfl
  all_goals exact h

theorem EventsServed.debounceExpired {s : State} (h : EventsServed s) (l : LineId) :
    EventsServed (s.debounceExpired l) := by
  unfold State.debounceExpired
  split
  · split_ifs
    · exact h.modLine rfl
    · exact h.modLine rfl
    · exact h.enterPending l
  all_goals exact h

theorem EventsServed.validationExpired {s : State} (h : EventsServed s) (l : LineId) :
    EventsServed (s.validationExpired l) := by
  unfold State.validationExpired
  split
  · exact h.enterPending l
  all_goals exact h

theorem Unnoticed.expiryTaken (s : State) : Unnoticed s s.expiryTaken := by
  refine ⟨rfl, rfl, fun _ hc => hc, fun l c hl => ?_⟩
  rw [State.expiryTaken_line] at hl
  split at hl <;> exact hl

theorem EventsServed.intervalExpired {s : State} (h : EventsServed s) : EventsServed s.intervalExpired := by
  rw [State.intervalExpired_eq]
  exact (h.of_unnoticed (.expiryTaken s)).serviceIf _

theorem EventsServed.countFalls {s : State} (h : EventsServed s) : EventsServed s.countFalls := by
  unfold State.countFalls
  split_ifs
  · exact h
  · exact h.intervalExpired
  · exact h.of_unnoticed (.of_blocks rfl rfl rfl rfl)

/-! ### Every event, every step -/

/-- What keeps the invariant of an operating part keeps it in every phase: elsewhere nothing is taken (R177). -/
theorem EventsHold.whenOperating {s t : State} (h : EventsHold s) (effect : State → State)
    (heffect : EventsServed s → EventsServed (effect s)) (hnext : whenOperating s effect = .next t) :
    EventsHold t := by
  rw [whenOperating_next] at hnext
  cases hnext
  split
  · rename_i hphase
    exact (heffect (h.served hphase)).hold
  · exact h

theorem EventsHold.command {i : Instr} {p : PortId} (hp : i.commandPort = some p) {s t : State} (h : EventsHold s)
    (hnext : exec i s = .next t) : EventsHold t := by
  rw [exec_command hp, takenAt] at hnext
  refine h.whenOperating _ (fun hs => ?_) hnext
  split
  · exact hs.runCommand i
  · exact hs.modPort ..

theorem EventsHold.byteExchange {s t : State} (h : EventsHold s) {p : PortId} {b : Byte}
    (hnext : execByteExchange p b s = .next t) : EventsHold t := by
  unfold execByteExchange at hnext
  split at hnext
  · split at hnext <;> cases hnext
    · rename_i hphase
      exact (((h.served hphase).modPort ..).takeIn p b).hold
    all_goals exact h.of_unnoticed (.modPort ..)
  · cases hnext
    exact h

theorem EventsHold.pinLevelChange {s t : State} (h : EventsHold s) {l : LineId} {level : PinLevel}
    (hnext : execPinLevelChange l level s = .next t) : EventsHold t := by
  have sampled : EventsHold (s.setPin l level) := h.of_unnoticed (.of_blocks rfl rfl rfl rfl)
  unfold execPinLevelChange at hnext
  split at hnext
  · cases hnext
    exact h
  · split at hnext <;> cases hnext
    · rename_i hphase
      exact ((sampled.served hphase).pinChanged l level).hold
    all_goals exact sampled

theorem EventsHold.startupComplete {s t : State} (h : EventsHold s) {straps : Vector Level 4}
    (hnext : execStartupComplete straps s = .next t) : EventsHold t := by
  unfold execStartupComplete at hnext
  split at hnext <;> cases hnext
  · exact .start ..
  · exact .start ..
  · exact h
  · exact h

theorem EventsHold.resetRelease {s t : State} (h : EventsHold s) {straps : Vector Level 4}
    (hnext : execResetRelease straps s = .next t) : EventsHold t := by
  unfold execResetRelease at hnext
  split at hnext <;> cases hnext
  · exact .start ..
  · exact .start ..
  · exact h
  · exact h

theorem EventsHold.exec {i : Instr} {s t : State} (h : EventsHold s) (hnext : exec i s = .next t) :
    EventsHold t := by
  cases hp : i.commandPort with
  | some p => exact h.command hp hnext
  | none =>
    cases i with
    | select p => cases hnext; exact h.of_unnoticed (.modPort ..)
    | deselect p => cases hnext; exact h.of_unnoticed (.modPort ..)
    | byteExchange p b => exact h.byteExchange hnext
    | receiveTimerExpiry p =>
      exact h.whenOperating (fun s => s.modPort p Port.onTimeout) (fun hs => hs.modPort ..) hnext
    | dataRunWordAccess p fails =>
      exact h.whenOperating (fun s => s.accessWord p fails) (fun hs => hs.accessWord p fails) hnext
    | elementStep f => exact h.whenOperating (fun s => s.elementStep f) (fun hs => hs.elementStep f) hnext
    | pinLevelChange l level => exact h.pinLevelChange hnext
    | debounceExpiry l => exact h.whenOperating (fun s => s.debounceExpired l) (fun hs => hs.debounceExpired l) hnext
    | validationExpiry l =>
      exact h.whenOperating (fun s => s.validationExpired l) (fun hs => hs.validationExpired l) hnext
    | intervalTimerExpiry =>
      refine h.whenOperating (fun s => if s.timer.running then s.intervalExpired else s) (fun hs => ?_) hnext
      split
      · exact hs.intervalExpired
      · exact hs
    | referenceTestComplete o =>
      exact h.whenOperating (fun s => s.completeReference o) (fun hs => hs.completeReference o) hnext
    | pageTestComplete o => exact h.whenOperating (fun s => s.completePage o) (fun hs => hs.completePage o) hnext
    | pairTestComplete o => exact h.whenOperating (fun s => s.completePair o) (fun hs => hs.completePair o) hnext
    | powerOn => cases hnext; exact h.stop (Phase.withStartup_ne_operating _)
    | startupComplete straps => exact h.startupComplete hnext
    | resetAssert => cases hnext; exact h.stop (Phase.withReset_ne_operating _)
    | resetRelease straps => exact h.resetRelease hnext
    | remainingCountFalls => exact h.whenOperating State.countFalls (fun hs => hs.countFalls) hnext
    | _ => cases hp

/-- Settles O59: while the part operates each operation keeps the outputs synced and the notices named, the end of
operation deasserts every output, and each start returns the events to their defaults. -/
theorem stepsKeepAttentionFollowingFlags : Obligations.StepsKeepAttentionFollowingFlags := by
  intro s t hattention hnamed hstep
  have hold : EventsHold s := ⟨hattention, hnamed⟩
  have after : EventsHold t := by
    unfold step at hstep
    split at hstep
    · cases hstep
      exact hold
    · rename_i rest _
      have taken : EventsHold (s.withPending rest) := hold.of_unnoticed (.of_blocks rfl rfl rfl rfl)
      exact taken.exec hstep
  exact ⟨after.attention, after.named⟩

end Sys2Proof.Machine
end

section
/-! PROOFS. The commands of the Event Unit: READ_EVENTS (R182), SET_ATTENTION (R183), CLEAR_EVENTS (R184) and
READ_COMPLETIONS (R185). -/

namespace Sys2Proof.Machine

/-! ### Flag sets as bytes (11.2, R188) -/

theorem flagByte_eq (f : FlagSet) : flagByte f = BitVec.ofNat 8 f.toNat := by
  rw [BitVec.ofNat_toNat]
  rfl

/-- Bits 6 and 7 are clear exactly in the bytes below 64. -/
theorem flagsOfByte_guard (b : Byte) : (b.getLsbD 6 || b.getLsbD 7) = decide (63 < b.toNat) := by
  have high := b.isLt
  rw [← BitVec.testBit_toNat, ← BitVec.testBit_toNat, Nat.testBit_eq_decide_div_mod_eq,
    Nat.testBit_eq_decide_div_mod_eq, ← Bool.decide_or]
  refine decide_eq_decide.mpr ?_
  omega

theorem flagsOfByte_eq_none {b : Byte} (h : 63 < b.toNat) : flagsOfByte b = none := by
  rw [flagsOfByte, flagsOfByte_guard, decide_eq_true h]
  rfl

theorem flagsOfByte_eq_some {b : Byte} {f : FlagSet} (h : b.toNat = f.toNat) : flagsOfByte b = some f := by
  have low : ¬63 < b.toNat := by omega
  have truncated : b.truncate 6 = f := by
    rw [BitVec.truncate_eq_setWidth, ← BitVec.ofNat_toNat, h, BitVec.ofNat_toNat, BitVec.setWidth_eq]
  rw [flagsOfByte, flagsOfByte_guard, decide_eq_false low, truncated]
  rfl

/-! ### The entries of a completion set (R182, R185) -/

theorem PortEvents.mem_entries (e : PortEvents) (c : ContextId) (o : Ending) :
    (c, o) ∈ e.entries ↔ e.completions[c] = some o := by
  simp only [PortEvents.entries, List.mem_filterMap, List.mem_finRange, true_and, Option.map_eq_some_iff,
    Prod.mk.injEq, exists_eq_right_right, exists_eq_right]

theorem PortEvents.entries_ascending (e : PortEvents) : e.entries.Pairwise fun x y => x.1 < y.1 := by
  unfold PortEvents.entries
  rw [List.pairwise_filterMap]
  refine (List.pairwise_lt_finRange 32).imp fun {c d} hcd x hx y hy => ?_
  obtain ⟨-, -, rfl⟩ := Option.map_eq_some_iff.mp hx
  obtain ⟨-, -, rfl⟩ := Option.map_eq_some_iff.mp hy
  exact hcd

/-- As many entries as contexts with a notice. -/
theorem PortEvents.entries_length (e : PortEvents) :
    e.entries.length = ((List.finRange 32).filter fun c => (e.completions[c]).isSome).length := by
  rw [PortEvents.entries, List.length_filterMap_eq_countP, List.countP_eq_length_filter]
  simp only [Option.isSome_map]

theorem endingByte_eq (o : Ending) : endingByte o = if o = .done then 0x00 else 0x01 := by cases o <;> rfl

theorem PortEvents.completionBytes_eq (e : PortEvents) :
    e.completionBytes =
      BitVec.ofNat 8 e.entries.length ::
        e.entries.flatMap fun x => [BitVec.ofNat 8 x.1.val, if x.2 = .done then 0x00 else 0x01] := by
  simp only [PortEvents.completionBytes, endingByte_eq]
  rfl

theorem PortEvents.eventBytes_eq (e : PortEvents) :
    e.eventBytes =
      [BitVec.ofNat 8 e.flags.toNat, BitVec.ofNat 8 e.mask.toNat,
        BitVec.ofNat 8 ((List.finRange 32).filter fun c => (e.completions[c]).isSome).length] := by
  rw [← e.entries_length, ← flagByte_eq, ← flagByte_eq]
  rfl

/-! ### A byte that names flags (R183, R184, R188) -/

theorem takeSetAttention_of_some {mask : Byte} {m : FlagSet} (h : flagsOfByte mask = some m) (p : PortId)
    (s : State) :
    takeSetAttention p mask s =
      (s.modEvents p fun e => e.setMask m).answer p 0x72 .ok [flagByte (s.eventsAt p).flags] := by
  rw [takeSetAttention, h]

theorem takeClearEvents_of_some {flags : Byte} {f : FlagSet} (h : flagsOfByte flags = some f) (p : PortId)
    (s : State) :
    takeClearEvents p flags s =
      (s.modEvents p fun e => e.clear f).answer p 0x71 .ok [flagByte ((s.eventsAt p).clear f).flags] := by
  rw [takeClearEvents, h]
  dsimp only
  rw [State.modEvents_eventsAt_self]

/-- Settles O33: the bytes of READ_EVENTS, and the mask of SET_ATTENTION with the output brought to agree. -/
theorem readEventsAndSetAttention : Obligations.ReadEventsAndSetAttention := by
  refine ⟨fun p s htakes => ⟨?_, ?_⟩, fun p mask s htakes => ?_⟩
  · exact (List.length_filter_le _ _).trans_eq List.length_finRange
  · rw [exec_of_takes (i := .readEvents p) rfl htakes, ← PortEvents.eventBytes_eq]
    rfl
  · have run : exec (.setAttention p mask) s = .next (takeSetAttention p mask s) := exec_of_takes rfl htakes
    rw [run]
    refine ⟨fun hforeign => ?_, fun m hm => ?_⟩
    · rw [takeSetAttention, flagsOfByte_eq_none hforeign]
      rfl
    · rw [takeSetAttention_of_some (flagsOfByte_eq_some hm), flagByte_eq]
      rfl

/-- Settles O34: CLEAR_EVENTS by the flag set that its byte names, READ_COMPLETIONS by the entries of the completion
set. -/
theorem clearEventsAndReadCompletionsClearFlags : Obligations.ClearEventsAndReadCompletionsClearFlags := by
  intro p s htakes
  refine ⟨fun flags => ?_, (s.eventsAt p).entries, (s.eventsAt p).mem_entries, (s.eventsAt p).entries_ascending, ?_⟩
  · have run : exec (.clearEvents p flags) s = .next (takeClearEvents p flags s) := exec_of_takes rfl htakes
    rw [run]
    refine ⟨fun hforeign => ?_, fun f hf => ?_⟩
    · rw [takeClearEvents, flagsOfByte_eq_none hforeign]
      rfl
    · rw [takeClearEvents_of_some (flagsOfByte_eq_some hf), flagByte_eq]
      rfl
  · rw [exec_of_takes (i := .readCompletions p) rfl htakes, ← PortEvents.completionBytes_eq]
    rfl

end Sys2Proof.Machine
end

section
/-! PROOFS. What an operation does to the queue and to the words of the store: most leave both as they are, and the
rest keep the queue and the canonical form (assumption log 4, 8). -/

namespace Sys2Proof.Machine

/-! ### States that share queue and words -/

/-- `t` has the queue and the words of `s`. -/
structure SameStore (s t : State) : Prop where
  pending : t.pending = s.pending
  words : t.words = s.words

theorem SameStore.refl (s : State) : SameStore s s := ⟨rfl, rfl⟩

theorem SameStore.trans {s t u : State} (h : SameStore s t) (h' : SameStore t u) : SameStore s u :=
  ⟨h'.pending.trans h.pending, h'.words.trans h.words⟩

theorem SameStore.answer {s t : State} (h : SameStore s t) (p : PortId) (code : Byte) (st : Status) (rs : List Byte) :
    SameStore s (t.answer p code st rs) := h.trans ⟨rfl, rfl⟩

theorem SameStore.servicePass {s t : State} (h : SameStore s t) : SameStore s t.servicePass :=
  h.trans ⟨t.servicePass_pending, t.servicePass_words⟩

theorem SameStore.serviceIf {s t : State} (h : SameStore s t) (opportunity : Bool) :
    SameStore s (t.serviceIf opportunity) :=
  h.trans ⟨t.serviceIf_pending opportunity, t.serviceIf_words opportunity⟩

theorem SameStore.withdraw (s : State) (w : ContextId → Bool) : SameStore s (s.withdraw w) :=
  ⟨s.withdraw_pending w, s.withdraw_words w⟩

theorem SameStore.faultContext (s : State) (c : ContextId) (cause : FaultCause) :
    SameStore s (s.faultContext c cause) :=
  ⟨s.faultContext_pending c cause, s.faultContext_words c cause⟩

theorem SameStore.wordCheckFailure (s : State) (g : PhysicalPage) : SameStore s (s.wordCheckFailure g) :=
  ⟨s.wordCheckFailure_pending g, s.wordCheckFailure_words g⟩

theorem SameStore.clearFaults (s : State) (pages : PageSet) (kinds : FaultSet) (off : Bool) :
    SameStore s (s.clearFaults pages kinds off) := by
  unfold State.clearFaults
  exact ⟨rfl, rfl⟩

theorem SameStore.acceptCheck (s : State) (p : PortId) (pages : PageSet) (q : StepRequest) :
    SameStore s (s.acceptCheck p pages q) := by
  unfold State.acceptCheck
  exact ⟨rfl, rfl⟩

theorem SameStore.holdContext (s : State) (c : ContextId) : SameStore s (s.holdContext c) := by
  have left := SameStore.withdraw (s.modCtx c fun k => { k with state := .held, nested := false }) (· = c)
  unfold State.holdContext
  refine SameStore.serviceIf ?_ _
  exact ⟨left.pending, left.words⟩

theorem SameStore.resumeContext (s : State) (c : ContextId) : SameStore s (s.resumeContext c) := by
  unfold State.resumeContext
  dsimp only
  split <;> exact ⟨rfl, rfl⟩

theorem SameStore.resetPort (s : State) (p q : PortId) : SameStore s (s.resetPort p q) := by
  have freed : SameStore s ((s.withdraw (s.activeOwnedBy q)).freeSlots (s.ownedBy q)) :=
    (SameStore.withdraw ..).trans ⟨State.freeSlots_pending .., State.freeSlots_words ..⟩
  unfold State.resetPort
  dsimp only
  generalize (s.withdraw (s.activeOwnedBy q)).freeSlots (s.ownedBy q) = t at freed
  exact ⟨freed.pending, freed.words⟩

/-! ### The course of a check: words change at its tests and at its abort alone (R149 to R155) -/

theorem SameStore.endCheck (s : State) : SameStore s s.endCheck := by
  have closed : SameStore s s.closeCheck := by
    unfold State.closeCheck
    exact ⟨rfl, rfl⟩
  unfold State.endCheck
  generalize s.closeCheck = t at closed
  refine SameStore.servicePass ?_
  exact ⟨closed.pending, closed.words⟩

theorem SameStore.takePair (s : State) (next : Option (PhysicalPage × PhysicalPage)) :
    SameStore s (s.takePair next) := by
  unfold State.takePair
  split
  · exact ⟨rfl, rfl⟩
  · exact .endCheck s

theorem SameStore.afterPattern (s : State) : SameStore s s.afterPattern := by
  unfold State.afterPattern
  split
  · exact .takePair ..
  · exact .endCheck s

theorem SameStore.nextPageTest (s : State) : SameStore s s.nextPageTest := by
  unfold State.nextPageTest
  split
  · exact ⟨rfl, rfl⟩
  · exact .afterPattern s

theorem SameStore.afterReference (s : State) : SameStore s s.afterReference := by
  unfold State.afterReference
  split
  · exact .nextPageTest s
  · exact .afterPattern s

theorem SameStore.completeReference (s : State) (o : TestOutcome) : SameStore s (s.completeReference o) := by
  unfold State.completeReference
  split
  · refine SameStore.trans ?_ (.afterReference _)
    exact ⟨rfl, rfl⟩
  · refine SameStore.trans ?_ (.endCheck _)
    exact ⟨rfl, rfl⟩
  · exact .refl s

/-! ### Operations that keep the queue and the canonical form -/

/-- `t` has the queue of `s`, and its words are in canonical form where those of `s` are. -/
structure KeepsStore (s t : State) : Prop where
  pending : t.pending = s.pending
  canonical : StoreCanonical s → StoreCanonical t

theorem SameStore.keeps {s t : State} (h : SameStore s t) : KeepsStore s t := by
  refine ⟨h.pending, fun hs => ?_⟩
  rwa [StoreCanonical, h.words]

theorem KeepsStore.refl (s : State) : KeepsStore s s := (SameStore.refl s).keeps

theorem KeepsStore.trans {s t u : State} (h : KeepsStore s t) (h' : KeepsStore t u) : KeepsStore s u :=
  ⟨h'.pending.trans h.pending, fun hs => h'.canonical (h.canonical hs)⟩

theorem KeepsStore.modPort (s : State) (p : PortId) (f : Port → Port) : KeepsStore s (s.modPort p f) :=
  SameStore.keeps ⟨rfl, rfl⟩

theorem KeepsStore.modLine (s : State) (l : LineId) (f : Line → Line) : KeepsStore s (s.modLine l f) :=
  SameStore.keeps ⟨rfl, rfl⟩

theorem KeepsStore.answer {s t : State} (h : KeepsStore s t) (p : PortId) (code : Byte) (st : Status)
    (rs : List Byte) : KeepsStore s (t.answer p code st rs) := h.trans (.modPort ..)

theorem KeepsStore.refuse (s : State) (p : PortId) (code : Byte) (st : Status) : KeepsStore s (s.refuse p code st) :=
  (KeepsStore.refl s).answer ..

/-- One word is written through a port's map, whose every physical address lies in the store (R7, R13). -/
theorem KeepsStore.write (s : State) (p : PortId) (a : LogicalAddress) (w : Word) :
    KeepsStore s { s with words := s.words.write (s.physical p a) w } :=
  ⟨rfl, fun hs => Memory.write_wf hs (s.physical_lt p a) w⟩

/-- The result words of an element step are written through the owner's map (R92, R93). -/
theorem KeepsStore.writeResults (s : State) (p : PortId) (ws : List (LogicalAddress × Word)) :
    KeepsStore s (s.writeResults p ws) := by
  refine ⟨rfl, fun hs => Memory.writeAll_wf hs fun x hx => ?_⟩
  obtain ⟨w, -, rfl⟩ := List.mem_map.mp hx
  exact s.physical_lt p w.1

theorem KeepsStore.zeroPage (s : State) (g : PhysicalPage) : KeepsStore s { s with words := s.words.zeroPage g } :=
  ⟨rfl, fun hs => Memory.zeroPage_wf hs g⟩

theorem KeepsStore.zeroPair (s : State) (a b : PhysicalPage) :
    KeepsStore s { s with words := (s.words.zeroPage a).zeroPage b } := (zeroPage s a).trans (zeroPage _ b)

theorem KeepsStore.zeroUnderTest (s : State) : KeepsStore s s.zeroUnderTest := by
  unfold State.zeroUnderTest
  split
  · exact .zeroPage ..
  · exact .zeroPair ..
  all_goals exact .refl s

/-! ### The element step and the tests of a check -/

theorem KeepsStore.finishStep (s : State) (c : ContextId) (k : Context) (r : StepResult) :
    KeepsStore s (s.finishStep c k r) := by
  have recorded (t : State) : SameStore t (t.modCtx c fun x => x.advanced r) := ⟨rfl, rfl⟩
  have written := (writeResults s k.owner r.writes).trans (recorded _).keeps
  unfold State.finishStep
  dsimp only
  split
  · exact written.trans (SameStore.keeps ⟨State.completeContext_pending .., State.completeContext_words ..⟩)
  · exact written

theorem KeepsStore.stepContext (s : State) (c : ContextId) (k : Context) (failingRead : Option Nat) :
    KeepsStore s (s.stepContext c k failingRead) := by
  unfold State.stepContext
  split
  · exact (SameStore.faultContext ..).keeps
  · split
    · exact ((SameStore.wordCheckFailure ..).trans (.faultContext ..)).keeps
    · split
      · exact (SameStore.faultContext ..).keeps
      · exact .finishStep ..

theorem KeepsStore.elementStep (s : State) (failingRead : Option Nat) : KeepsStore s (s.elementStep failingRead) := by
  unfold State.elementStep
  split
  · exact .refl s
  · split
    · exact .refl s
    · exact .stepContext ..

/-- The page tested is zero-filled, whatever the outcome (R150). -/
theorem KeepsStore.judgePage (s : State) (g : PhysicalPage) (o : TestOutcome) : KeepsStore s (s.judgePage g o) := by
  cases o <;> exact (zeroPage s g).trans (SameStore.keeps ⟨rfl, rfl⟩)

/-- Both pages tested are zero-filled, whatever the outcome (R151). -/
theorem KeepsStore.judgePair (s : State) (a b : PhysicalPage) (o : TestOutcome) :
    KeepsStore s (s.judgePair a b o) := by
  cases o <;> exact (zeroPair s a b).trans (SameStore.keeps ⟨rfl, rfl⟩)

theorem KeepsStore.completePage (s : State) (o : TestOutcome) : KeepsStore s (s.completePage o) := by
  unfold State.completePage
  split
  · exact (judgePage ..).trans (SameStore.nextPageTest _).keeps
  · exact .refl s

theorem KeepsStore.completePair (s : State) (o : TestOutcome) : KeepsStore s (s.completePair o) := by
  unfold State.completePair
  split
  · exact (judgePair ..).trans (SameStore.takePair ..).keeps
  · exact .refl s

/-! ### The ends and starts of operation (R175, R177) -/

theorem KeepsStore.stop (s : State) (ph : Phase) : KeepsStore s (s.stop ph) := SameStore.keeps ⟨rfl, rfl⟩

theorem KeepsStore.start (s : State) (straps : Vector Level 4) (ph : Phase) : KeepsStore s (s.start straps ph) :=
  ⟨rfl, fun _ => Memory.wf_nil⟩

theorem KeepsStore.restart (s : State) (p : PortId) : KeepsStore s (s.restart p) := by
  have dropped : KeepsStore s s.dropCheck := by
    unfold State.dropCheck
    split
    · exact .zeroUnderTest s
    all_goals exact .refl s
  exact ⟨dropped.pending, dropped.canonical⟩

end Sys2Proof.Machine
end

section
/-! PROOFS. Every command keeps the queue and the canonical form: DEVICE_RESTART and ABORT_CHECK zero-fill the pages
under test, and no other command writes a word before its data run (R13). -/

namespace Sys2Proof.Machine

/-- Whether a command can change words of the store at the event that takes it. -/
def writesWords : Instr → Bool
  | .deviceRestart .. | .abortCheck .. => true
  | _ => false

theorem runCommand_sameStore (i : Instr) (s : State) (h : writesWords i = false) : SameStore s (runCommand i s) := by
  cases i with
  | deviceRestart | abortCheck => cases h
  | setPort | readPageFaults | readRun | readLines | readCheck | readEvents | readCompletions => exact ⟨rfl, rfl⟩
  | echo => rw [runCommand, takeEcho]; split <;> exact ⟨rfl, rfl⟩
  | portReset =>
    rw [runCommand, takePortReset]
    split
    · exact ⟨rfl, rfl⟩
    · exact ((SameStore.resetPort ..).answer ..).serviceIf _
  | writeMap => rw [runCommand, takeWriteMap]; split <;> exact ⟨rfl, rfl⟩
  | readMap => rw [runCommand, takeReadMap]; split <;> exact ⟨rfl, rfl⟩
  | translate => rw [runCommand, takeTranslate]; split <;> exact ⟨rfl, rfl⟩
  | readWords =>
    rw [runCommand, takeReadWords]
    split
    · exact ⟨rfl, rfl⟩
    · split <;> exact ⟨rfl, rfl⟩
  | writeWords =>
    rw [runCommand, takeWriteWords]
    split
    · exact ⟨rfl, rfl⟩
    · split <;> exact ⟨rfl, rfl⟩
  | clearFaults =>
    rw [runCommand, takeClearFaults]
    split
    · exact ⟨rfl, rfl⟩
    · exact (SameStore.clearFaults ..).answer ..
  | defineContext => rw [runCommand, takeDefineContext]; split <;> exact ⟨rfl, rfl⟩
  | setParams => rw [runCommand, takeSetParams]; split <;> exact ⟨rfl, rfl⟩
  | readContext => rw [runCommand, takeReadContext]; split <;> exact ⟨rfl, rfl⟩
  | clearContext =>
    rw [runCommand, takeClearContext]
    split
    · exact ⟨rfl, rfl⟩
    · refine SameStore.answer (SameStore.servicePass ?_) ..
      exact ⟨rfl, rfl⟩
  | freeContext =>
    rw [runCommand, takeFreeContext]
    split
    · exact ⟨rfl, rfl⟩
    · exact SameStore.answer ⟨State.freeSlots_pending .., State.freeSlots_words ..⟩ ..
  | writeGate =>
    rw [runCommand, takeWriteGate]
    split
    · exact ⟨rfl, rfl⟩
    · refine SameStore.answer (SameStore.servicePass ?_) ..
      exact ⟨rfl, rfl⟩
  | readGate => rw [runCommand, takeReadGate]; split <;> exact ⟨rfl, rfl⟩
  | invoke =>
    rw [runCommand, takeInvoke]
    split
    · exact ⟨rfl, rfl⟩
    · exact SameStore.answer ⟨State.accept_pending .., State.accept_words ..⟩ ..
  | hold =>
    rw [runCommand, takeHold]
    split
    · exact ⟨rfl, rfl⟩
    · split
      · exact (SameStore.holdContext ..).answer ..
      · split
        · exact (SameStore.holdContext ..).answer ..
        · exact ⟨rfl, rfl⟩
      all_goals exact ⟨rfl, rfl⟩
  | resume =>
    rw [runCommand, takeResume]
    split
    · exact ⟨rfl, rfl⟩
    · split
      · exact (SameStore.resumeContext ..).answer ..
      · exact ⟨rfl, rfl⟩
  | abort =>
    rw [runCommand, takeAbort]
    split
    · exact ⟨rfl, rfl⟩
    · split
      · exact (SameStore.faultContext ..).answer ..
      · exact ⟨rfl, rfl⟩
  | configLine => rw [runCommand, takeConfigLine]; split <;> exact ⟨rfl, rfl⟩
  | clearLine => rw [runCommand, takeClearLine]; split <;> exact ⟨rfl, rfl⟩
  | setTimer => rw [runCommand, takeSetTimer]; split <;> exact ⟨rfl, rfl⟩
  | startCheck =>
    rw [runCommand, takeStartCheck]
    split
    · exact ⟨rfl, rfl⟩
    · refine SameStore.answer ?_ ..
      split
      · exact (SameStore.acceptCheck ..).trans (.endCheck _)
      · exact .acceptCheck ..
  | clearEvents => rw [runCommand, takeClearEvents]; split <;> exact ⟨rfl, rfl⟩
  | setAttention => rw [runCommand, takeSetAttention]; split <;> exact ⟨rfl, rfl⟩
  | select | deselect | byteExchange | receiveTimerExpiry | dataRunWordAccess | elementStep | pinLevelChange
  | debounceExpiry | validationExpiry | intervalTimerExpiry | referenceTestComplete | pageTestComplete
  | pairTestComplete | powerOn | startupComplete | resetAssert | resetRelease | remainingCountFalls => exact .refl s

theorem KeepsStore.takeDeviceRestart (p : PortId) (s : State) : KeepsStore s (takeDeviceRestart p s) := by
  unfold Machine.takeDeviceRestart
  split
  · exact .refuse ..
  · exact (restart s p).answer ..

theorem KeepsStore.takeAbortCheck (p : PortId) (s : State) : KeepsStore s (takeAbortCheck p s) := by
  unfold Machine.takeAbortCheck
  split
  · exact .refuse ..
  · have recorded (t : State) (f : CheckRecord → CheckRecord) : SameStore t (t.modCheck f) := ⟨rfl, rfl⟩
    have ended (t : State) (f : CheckRecord → CheckRecord) : SameStore t (t.modCheck f).endCheck :=
      (recorded t f).trans (.endCheck _)
    exact ((zeroUnderTest s).trans (ended ..).keeps).answer ..

theorem KeepsStore.runCommand (i : Instr) (s : State) : KeepsStore s (runCommand i s) := by
  cases i with
  | deviceRestart p => exact takeDeviceRestart p s
  | abortCheck p => exact takeAbortCheck p s
  | _ => exact (runCommand_sameStore _ s rfl).keeps

end Sys2Proof.Machine
end

section
/-! PROOFS. Every command and event answers a next state that keeps the queue and the canonical form, and a step runs
the front of the queue. -/

namespace Sys2Proof.Machine

/-! ### Frames and data runs (R13, R14, R163 to R166) -/

theorem KeepsStore.takeFrame (p : PortId) (frame : List Byte) (s : State) : KeepsStore s (takeFrame p frame s) := by
  unfold Machine.takeFrame
  split
  · exact .runCommand ..
  · exact .refuse ..

theorem KeepsStore.frameCompleted (p : PortId) (frame : List Byte) (s : State) :
    KeepsStore s (frameCompleted p frame s) := by
  unfold Machine.frameCompleted
  split
  · exact .takeFrame ..
  · exact .modPort ..

theorem KeepsStore.takeIn (s : State) (p : PortId) (b : Byte) : KeepsStore s (s.takeIn p b) := by
  unfold State.takeIn
  split
  · unfold State.takeLength
    split_ifs
    · exact .refl s
    · exact (modPort ..).trans (.refuse ..)
    · exact .modPort ..
  · exact .refl s
  · unfold State.addByte
    split
    · exact (modPort ..).trans (.frameCompleted ..)
    · exact .modPort ..
  · exact .refl s

theorem KeepsStore.endRun (s : State) (p : PortId) (code : Byte) (st : Status) (rs : List Byte) :
    KeepsStore s (s.endRun p code st rs) := by
  have ended : KeepsStore s (s.runEnded p code st rs) := (modPort ..).answer ..
  show KeepsStore s ((s.runEnded p code st rs).takeKept p)
  unfold State.takeKept
  split
  · exact ended
  · exact (ended.trans (.modPort ..)).trans (.takeFrame ..)

theorem KeepsStore.accessRead (s : State) (p : PortId) (fails : Bool) (a : LogicalAddress) (left : Nat)
    (got : List Word) : KeepsStore s (s.accessRead p fails a left got) := by
  unfold State.accessRead
  split
  · exact .endRun ..
  · dsimp only
    split_ifs
    · exact (SameStore.wordCheckFailure ..).keeps.trans (.endRun ..)
    · exact .endRun ..
    · exact .modPort ..

theorem KeepsStore.accessWrite (s : State) (p : PortId) (a : LogicalAddress) (rest : List Word) (written : Nat) :
    KeepsStore s (s.accessWrite p a rest written) := by
  unfold State.accessWrite
  split
  · exact .endRun ..
  · split
    · exact .endRun ..
    · dsimp only
      split_ifs
      · exact (write ..).trans (.endRun ..)
      · exact (write ..).trans (.modPort ..)

theorem KeepsStore.accessWord (s : State) (p : PortId) (fails : Bool) : KeepsStore s (s.accessWord p fails) := by
  unfold State.accessWord
  split
  · exact .refl s
  · exact .accessRead ..
  · exact .accessWrite ..

/-! ### Lines and the interval timer (R124 to R129, R141): no word changes -/

theorem SameStore.enterPending (s : State) (l : LineId) : SameStore s (s.enterPending l) := by
  unfold State.enterPending
  refine SameStore.servicePass ?_
  exact ⟨rfl, rfl⟩

theorem SameStore.qualifyingEdge (s : State) (l : LineId) : SameStore s (s.qualifyingEdge l) := by
  unfold State.qualifyingEdge
  split_ifs
  · exact ⟨rfl, rfl⟩
  · exact ⟨rfl, rfl⟩
  · exact .enterPending ..

theorem SameStore.pinChanged (s : State) (l : LineId) (level : PinLevel) : SameStore s (s.pinChanged l level) := by
  unfold State.pinChanged
  split
  · split_ifs
    · exact .qualifyingEdge ..
    · exact .refl s
  · split_ifs
    · exact .refl s
    · exact ⟨rfl, rfl⟩
  all_goals exact .refl s

theorem SameStore.debounceExpired (s : State) (l : LineId) : SameStore s (s.debounceExpired l) := by
  unfold State.debounceExpired
  split
  · split_ifs
    · exact ⟨rfl, rfl⟩
    · exact ⟨rfl, rfl⟩
    · exact .enterPending ..
  all_goals exact .refl s

theorem SameStore.validationExpired (s : State) (l : LineId) : SameStore s (s.validationExpired l) := by
  unfold State.validationExpired
  split
  · exact .enterPending ..
  all_goals exact .refl s

theorem SameStore.intervalExpired (s : State) : SameStore s s.intervalExpired := by
  rw [State.intervalExpired_eq]
  refine SameStore.serviceIf ?_ _
  exact ⟨rfl, rfl⟩

theorem SameStore.countFalls (s : State) : SameStore s s.countFalls := by
  unfold State.countFalls
  split_ifs
  · exact .refl s
  · exact .intervalExpired s
  · exact ⟨rfl, rfl⟩

/-! ### Every command and event answers a next state (R169; assumption log 18) -/

/-- The outcome of a step from `s` is a next state, with the queue of `s` and the canonical form kept. -/
def AnswersKept (s : State) (o : Outcome) : Prop := ∃ t, o = .next t ∧ KeepsStore s t

theorem KeepsStore.answers {s t : State} (h : KeepsStore s t) : AnswersKept s (.next t) := ⟨t, rfl, h⟩

theorem whenOperating_answersKept {s : State} (effect : State → State) (h : KeepsStore s (effect s)) :
    AnswersKept s (whenOperating s effect) := by
  rw [whenOperating_next]
  refine KeepsStore.answers ?_
  split
  · exact h
  · exact .refl s

theorem exec_command_answersKept {i : Instr} {p : PortId} (hp : i.commandPort = some p) (s : State) :
    AnswersKept s (exec i s) := by
  rw [exec_command hp]
  refine whenOperating_answersKept _ ?_
  split
  · exact .runCommand i s
  · exact .modPort ..

theorem execByteExchange_answersKept (p : PortId) (b : Byte) (s : State) : AnswersKept s (execByteExchange p b s) := by
  unfold execByteExchange
  split
  · split
    · exact ((KeepsStore.modPort ..).trans (.takeIn ..)).answers
    all_goals exact (KeepsStore.modPort ..).answers
  · exact (KeepsStore.refl s).answers

theorem execPinLevelChange_answersKept (l : LineId) (level : PinLevel) (s : State) :
    AnswersKept s (execPinLevelChange l level s) := by
  have sampled : SameStore s (s.setPin l level) := ⟨rfl, rfl⟩
  unfold execPinLevelChange
  split
  · exact (KeepsStore.refl s).answers
  · split
    · exact (sampled.trans (.pinChanged ..)).keeps.answers
    all_goals exact sampled.keeps.answers

theorem execStartupComplete_answersKept (straps : Vector Level 4) (s : State) :
    AnswersKept s (execStartupComplete straps s) := by
  unfold execStartupComplete
  split
  · exact (KeepsStore.start ..).answers
  · exact (KeepsStore.start ..).answers
  · exact (KeepsStore.refl s).answers
  · exact (KeepsStore.refl s).answers

theorem execResetRelease_answersKept (straps : Vector Level 4) (s : State) :
    AnswersKept s (execResetRelease straps s) := by
  unfold execResetRelease
  split
  · exact (KeepsStore.start ..).answers
  · exact (KeepsStore.start ..).answers
  · exact (KeepsStore.refl s).answers
  · exact (KeepsStore.refl s).answers

theorem exec_answersKept (i : Instr) (s : State) : AnswersKept s (exec i s) := by
  cases hp : i.commandPort with
  | some p => exact exec_command_answersKept hp s
  | none =>
    cases i with
    | select p => exact (KeepsStore.modPort ..).answers
    | deselect p => exact (KeepsStore.modPort ..).answers
    | byteExchange p b => exact execByteExchange_answersKept p b s
    | receiveTimerExpiry p => exact whenOperating_answersKept (fun s => s.modPort p Port.onTimeout) (.modPort ..)
    | dataRunWordAccess p fails => exact whenOperating_answersKept (fun s => s.accessWord p fails) (.accessWord ..)
    | elementStep f => exact whenOperating_answersKept (fun s => s.elementStep f) (.elementStep ..)
    | pinLevelChange l level => exact execPinLevelChange_answersKept l level s
    | debounceExpiry l =>
      exact whenOperating_answersKept (fun s => s.debounceExpired l) (SameStore.debounceExpired ..).keeps
    | validationExpiry l =>
      exact whenOperating_answersKept (fun s => s.validationExpired l) (SameStore.validationExpired ..).keeps
    | intervalTimerExpiry =>
      refine whenOperating_answersKept (fun s => if s.timer.running then s.intervalExpired else s) ?_
      split
      · exact (SameStore.intervalExpired s).keeps
      · exact .refl s
    | referenceTestComplete o =>
      exact whenOperating_answersKept (fun s => s.completeReference o) (SameStore.completeReference ..).keeps
    | pageTestComplete o => exact whenOperating_answersKept (fun s => s.completePage o) (.completePage ..)
    | pairTestComplete o => exact whenOperating_answersKept (fun s => s.completePair o) (.completePair ..)
    | powerOn => exact (KeepsStore.stop ..).answers
    | startupComplete straps => exact execStartupComplete_answersKept straps s
    | resetAssert => exact (KeepsStore.stop ..).answers
    | resetRelease straps => exact execResetRelease_answersKept straps s
    | remainingCountFalls => exact whenOperating_answersKept State.countFalls (SameStore.countFalls s).keeps
    | _ => cases hp

/-! ### The step -/

theorem step_withPending_cons (c : Instr) (rest : List Instr) (s : State) :
    step (s.withPending (c :: rest)) = exec c (s.withPending rest) := rfl

theorem step_of_idle {s : State} (h : s.pending = []) : step s = .next s := by rw [step, h]

/-- Settles O2: no arm of exec ends in a fault or a refusal, and no operation touches the queue. -/
theorem everyCommandAnswersNextState : Obligations.EveryCommandAnswersNextState := by
  intro c s
  obtain ⟨t, hnext, kept⟩ := exec_answersKept c s
  exact ⟨t, hnext, kept.pending⟩

/-- Settles O54: words change by writes at physical addresses, by the zero-fill of pages and by a start alone, and each
keeps the canonical form. -/
theorem stepsKeepTheStoreCanonical : Obligations.StepsKeepTheStoreCanonical := by
  intro s t hs hstep
  unfold step at hstep
  split at hstep
  · cases hstep
    exact hs
  · rename_i i rest _
    obtain ⟨u, hnext, kept⟩ := exec_answersKept i (s.withPending rest)
    rw [hnext] at hstep
    cases hstep
    exact kept.canonical hs

/-- Settles O1: by the two cases of `step`, on a queue with a front and on an empty one. -/
theorem stepTakesTheFrontOfTheQueue : Obligations.StepTakesTheFrontOfTheQueue :=
  ⟨step_withPending_cons, fun _ => step_of_idle⟩

end Sys2Proof.Machine
end
